-- ==== Sys2Proof/Word.lean ====
section
/-! DEFINITION. The command word and the constants of the hardware boundary that no configuration changes. -/

namespace Sys2Proof

/-- A command word: always exactly 16 bits, bit 0 the least significant (R12, R80). -/
abbrev Word := BitVec 16

/-- An analog sample, the 10-bit reading of R131. -/
abbrev Sample := BitVec 10

/-- `MILLIS_RING` of R9: the number of values of the Millis ring. -/
def millisRing : Nat := 1024

/-- `DUTY_MAX` of R9: the greatest legal duty value. -/
def dutyMax : Nat := 124

/-- `SAMPLE_MAX` of R9: the greatest analog sample. -/
def sampleMax : Nat := 1023

end Sys2Proof
end

