-- ==== Sys2Proof/Config.lean ====
section
/-! DEFINITION. The configuration record of R8: every constant the source calls a configuration or compile-time
constant. It is fixed for the life of the block and no operation writes it (R39). A field with a default has
the default of R8; a field that R8 marks OPEN has none, and every statement quantifies over it. -/

namespace Sys2Proof

/-- `MOTION_POLICY`: the cadence of the motion check (R143, R144). -/
inductive MotionPolicy where
  /-- The check runs at every motion command. -/
  | everyIter
  /-- The check runs at most once per aligned window of 128 ticks. -/
  | rate128
deriving DecidableEq, Repr

/-- `METER_MODE`: how the meter lamp is driven (R186, R187). -/
inductive MeterMode where
  /-- The third duty register. -/
  | hw
  /-- The software PWM on the auxiliary pin. -/
  | sw
deriving DecidableEq, Repr

/-- The configuration record of R8, the fields in the order of its table. -/
structure Config where
  /-- `TICK_CEIL`, saturation ceiling of TC. -/
  tickCeil : Nat := 88473600
  /-- `MOTION_TH`, analog motion threshold. -/
  motionTh : Nat := 50
  /-- `SETTLE_TH`, settle threshold in ticks. -/
  settleTh : Nat := 102
  /-- `IDLE_TH`, stationary (idle) threshold in ticks. -/
  idleTh : Nat := 184320
  /-- `MOTION_POLICY`, OPEN. -/
  motionPolicy : MotionPolicy
  /-- `EMA_K`, shift of the moving average. -/
  emaK : Nat := 3
  /-- `TH_LO`, enter-dark threshold, OPEN. -/
  thLo : Nat
  /-- `TH_HI`, enter-bright threshold, OPEN. -/
  thHi : Nat
  /-- `HEAD_DARK`, headlight duty when dark, OPEN. -/
  headDark : Nat
  /-- `HEAD_BRIGHT`, headlight duty when bright, OPEN. -/
  headBright : Nat
  /-- `TAIL_FLASH`, tail duty inside a flash window, OPEN. -/
  tailFlash : Nat
  /-- `TAIL_DIM`, tail duty outside the windows, OPEN. -/
  tailDim : Nat
  /-- `TAIL_D`, flash duration in ticks. -/
  tailD : Nat := 60
  /-- `TAIL_P`, offset of the second flash in ticks. -/
  tailP : Nat := 100
  /-- `METER_MODE`, OPEN. -/
  meterMode : MeterMode
  /-- `METER_DARK`, meter duty when dark, OPEN. -/
  meterDark : Nat
  /-- `METER_BRIGHT`, meter duty when bright, OPEN. -/
  meterBright : Nat
  /-- `SW_PERIOD`, software-PWM period in iterations. -/
  swPeriod : Nat := 8
  /-- `SW_DUTY`, software-PWM on-count. -/
  swDuty : Nat := 1
deriving DecidableEq, Repr

/-- The reference configuration REF of 95_test_vectors.md section 0 (D35): the defaults of R8, and for each OPEN
field the value the spec's own vectors use. DESIGN CHOICE, log entry 2: it is what `State.reset` carries; no
statement about the machine rests on its values. -/
def Config.reference : Config where
  motionPolicy := .everyIter
  thLo := 400
  thHi := 600
  headDark := 124
  headBright := 0
  tailFlash := 124
  tailDim := 20
  meterMode := .sw
  meterDark := 60
  meterBright := 30

/-- Policy (a) of the source, the degenerate single-threshold form, over any other fields (R11). -/
def Config.singleThreshold (c : Config) : Config := { c with thLo := 511, thHi := 511 }

end Sys2Proof
end

