-- ==== Sys2Proof/Syntax.lean ====
section
/-! DEFINITION. The operation set of R82: one constructor for each of the eight rows of spec/opcode_table.json,
and the two contexts of R222. -/

namespace Sys2Proof

/-- The eight operations (R82). An operand is typed by the field that carries it (R81), so that no
operation has an operand out of its range (R84). -/
inductive Instr where
  /-- NOP (R118). -/
  | nop
  /-- TICK, the tick-timer underflow procedure (R110). -/
  | tick
  /-- RSTCNT, the Reset-Counter operation (R114). -/
  | rstcnt
  /-- MOTA, motion check with an analog sample (R145). -/
  | mota (raw : Sample)
  /-- MOTD, motion check with the level of the digital sense pin (R146). -/
  | motd (lvl : Bool)
  /-- AMB, ambient-light sample (R160). -/
  | amb (raw : Sample)
  /-- SEED, load of the accumulator from an initial reading (R161). -/
  | seed (raw : Sample)
  /-- DUTY, idle decision and lamp duty lookup (R180). -/
  | duty
deriving DecidableEq, Repr

/-- The two contexts that take the place of privilege modes (R222). -/
inductive Context where
  /-- The interrupt context, whose only operation is TICK. -/
  | tick
  /-- The main-loop context, which issues every other operation. -/
  | control
deriving DecidableEq, Repr

/-- The context an operation belongs to (R37, R222). -/
def Instr.context : Instr → Context
  | .nop => .control
  | .tick => .tick
  | .rstcnt => .control
  | .mota _ => .control
  | .motd _ => .control
  | .amb _ => .control
  | .seed _ => .control
  | .duty => .control

end Sys2Proof
end

