-- ==== Sys2Proof/WellFormed.lean ====
section
/-! DEFINITION. What is well formed: a configuration (`cfg_ok` of R10, check by check), and an operation's operand
(R81, R84). -/

namespace Sys2Proof

/-- `TICK_CEIL` is 1 .. 2^27 - 1 (R8). -/
def Config.tickCeilOk (c : Config) : Bool := decide (1 ≤ c.tickCeil ∧ c.tickCeil ≤ 134217727)

/-- `MOTION_TH` is 0 .. 1023 (R8). -/
def Config.motionThOk (c : Config) : Bool := decide (c.motionTh ≤ sampleMax)

/-- `SETTLE_TH` is 0 .. TICK_CEIL - 1 (R8). -/
def Config.settleThOk (c : Config) : Bool := decide (c.settleTh < c.tickCeil)

/-- `IDLE_TH` is 0 .. TICK_CEIL - 1 (R8). -/
def Config.idleThOk (c : Config) : Bool := decide (c.idleTh < c.tickCeil)

/-- `EMA_K` is 0 .. 10 (R8). -/
def Config.emaKOk (c : Config) : Bool := decide (c.emaK ≤ 10)

/-- `TH_LO` and `TH_HI` are 0 .. 1023 and `TH_LO <= TH_HI` (R8, R10). -/
def Config.thresholdsOk (c : Config) : Bool :=
  decide (c.thLo ≤ sampleMax ∧ c.thHi ≤ sampleMax ∧ c.thLo ≤ c.thHi)

/-- The two headlight constants are 0 .. 124 (R8). -/
def Config.headOk (c : Config) : Bool := decide (c.headDark ≤ dutyMax ∧ c.headBright ≤ dutyMax)

/-- The two tail constants are 0 .. 124 (R8). -/
def Config.tailDutyOk (c : Config) : Bool := decide (c.tailFlash ≤ dutyMax ∧ c.tailDim ≤ dutyMax)

/-- The two flashes fit inside the ring without overlap (R8, R10). -/
def Config.tailWindowsOk (c : Config) : Bool :=
  decide (c.tailD ≤ millisRing ∧ c.tailP ≤ millisRing ∧ c.tailD ≤ c.tailP ∧ c.tailP + c.tailD ≤ millisRing)

/-- The two meter constants are 0 .. 124 (R8). -/
def Config.meterOk (c : Config) : Bool := decide (c.meterDark ≤ dutyMax ∧ c.meterBright ≤ dutyMax)

/-- `SW_PERIOD` is 1 .. 255 and `SW_DUTY` is 0 .. SW_PERIOD (R8, R10). -/
def Config.swPwmOk (c : Config) : Bool :=
  decide (1 ≤ c.swPeriod ∧ c.swPeriod ≤ 255 ∧ c.swDuty ≤ c.swPeriod)

/-- `cfg_ok(c)` of R10: every field in the range of R8 and the cross-field conditions. -/
def Config.ok (c : Config) : Bool :=
  c.tickCeilOk && c.motionThOk && c.settleThOk && c.idleThOk && c.emaKOk && c.thresholdsOk &&
    c.headOk && c.tailDutyOk && c.tailWindowsOk && c.meterOk && c.swPwmOk

/-- The operand of an operation is one its field can carry: a sample is 0 .. 1023 (R81). Every typed operand is
(R84, "every 10-bit value is a legal sample"); `Instr.wellFormed_all` in Laws says so. -/
def Instr.wellFormed : Instr → Bool
  | .nop => true
  | .tick => true
  | .rstcnt => true
  | .mota raw => decide (raw.toNat ≤ sampleMax)
  | .motd _ => true
  | .amb raw => decide (raw.toNat ≤ sampleMax)
  | .seed raw => decide (raw.toNat ≤ sampleMax)
  | .duty => true

end Sys2Proof
end

