-- ==== Sys2Proof/Decode.lean ====
section
/-! DEFINITION. The command encoding C16: fields, the decoder of R84 (total, rejecting by name), the encoder of R85
and the table of R82. Decoding depends on neither the state nor the configuration (R87). -/

namespace Sys2Proof

/-- `OPC = cmd[15:12]` (R80). -/
def opcField (w : Word) : BitVec 4 := w.extractLsb' 12 4

/-- `RSV = cmd[11:10]` (R80). -/
def rsvField (w : Word) : BitVec 2 := w.extractLsb' 10 2

/-- `OPD = cmd[9:0]` (R80). -/
def opdField (w : Word) : BitVec 10 := w.extractLsb' 0 10

/-- Why a word is no command (R86, R212). -/
inductive Illegal where
  /-- The operation code is one of the reserved codes 8 .. 15. -/
  | opcode
  /-- A reserved or must-be-zero bit is 1 in a word whose operation code is legal. -/
  | reserved
deriving DecidableEq, Repr

/-- The cause code that FCAUSE records (R212). -/
def Illegal.code : Illegal → BitVec 2
  | .opcode => 1
  | .reserved => 2

/-- What a word decodes to (R84): an operation, or `Illegal(code)`. -/
inductive Decoded where
  /-- The word is a command. -/
  | op (i : Instr)
  /-- The word is no command. -/
  | illegal (why : Illegal)
deriving DecidableEq, Repr

/-- Check (3) of R84 for an operation without operand: the whole operand field must be 0. -/
def withoutOperand (opd : BitVec 10) (i : Instr) : Decoded :=
  if opd = 0 then .op i else .illegal .reserved

/-- Check (3) of R84 for MOTD: OPD[9:1] must be 0; the level is OPD[0] (R81). -/
def withPinLevel (opd : BitVec 10) : Decoded :=
  if opd.extractLsb' 1 9 = 0 then .op (.motd (opd.getLsbD 0)) else .illegal .reserved

/-- Steps (3) and (4) of R84 for a word whose operation code is legal and whose reserved bits are 0. -/
def decodeOperand (opc : BitVec 4) (opd : BitVec 10) : Decoded :=
  match opc.toNat with
  | 0 => withoutOperand opd .nop
  | 1 => withoutOperand opd .tick
  | 2 => withoutOperand opd .rstcnt
  | 3 => .op (.mota opd)
  | 4 => withPinLevel opd
  | 5 => .op (.amb opd)
  | 6 => .op (.seed opd)
  | 7 => withoutOperand opd .duty
  | _ => .illegal .opcode

/-- The decoder of R84: the first failing check decides. -/
def decode (w : Word) : Decoded :=
  if 8 ≤ (opcField w).toNat then .illegal .opcode
  else if rsvField w ≠ 0 then .illegal .reserved
  else decodeOperand (opcField w) (opdField w)

/-- The encoder of R85. -/
def encode : Instr → Word
  | .nop => 0x0000
  | .tick => 0x1000
  | .rstcnt => 0x2000
  | .mota raw => 0x3000 + raw.setWidth 16
  | .motd lvl => 0x4000 + (if lvl then 1 else 0)
  | .amb raw => 0x5000 + raw.setWidth 16
  | .seed raw => 0x6000 + raw.setWidth 16
  | .duty => 0x7000

/-- One row of the opcode map of R82. -/
structure TableRow where
  mnemonic : String
  matchBits : Word
  mask : Word
deriving DecidableEq, Repr

/-- A word selects the row whose `(w AND mask) == match` (R82). -/
def TableRow.selects (r : TableRow) (w : Word) : Bool := w &&& r.mask == r.matchBits

/-- The row of R82 that an operation belongs to. -/
def Instr.row : Instr → TableRow
  | .nop => ⟨"NOP", 0x0000, 0xFFFF⟩
  | .tick => ⟨"TICK", 0x1000, 0xFFFF⟩
  | .rstcnt => ⟨"RSTCNT", 0x2000, 0xFFFF⟩
  | .mota _ => ⟨"MOTA", 0x3000, 0xFC00⟩
  | .motd _ => ⟨"MOTD", 0x4000, 0xFFFE⟩
  | .amb _ => ⟨"AMB", 0x5000, 0xFC00⟩
  | .seed _ => ⟨"SEED", 0x6000, 0xFC00⟩
  | .duty => ⟨"DUTY", 0x7000, 0xFFFF⟩

/-- The opcode map of R82, in its order. -/
def opcodeMap : List TableRow :=
  [Instr.nop.row, Instr.tick.row, Instr.rstcnt.row, (Instr.mota 0).row, (Instr.motd false).row,
    (Instr.amb 0).row, (Instr.seed 0).row, Instr.duty.row]

/-- The command word whose bits are the low `nbits` bits of `w` and 0 above them. -/
def commandWord (nbits w : Nat) : Word := BitVec.ofNat 16 (w % 2 ^ nbits)

/-- The operation the decoder reads from the word of `nbits` bits with value `w`; none where the decoder refuses it,
or where it is longer than the one 16-bit format (R80, log entry 5). -/
def decodeTableWord (nbits w : Nat) : Option Instr :=
  if 16 < nbits then none
  else
    match decode (commandWord nbits w) with
    | .op i => some i
    | .illegal _ => none

end Sys2Proof
end

