-- ==== Sys2Proof/Machine/State.lean ====
section
/-! DEFINITION. The state of the block: the sixteen registers of R20, and beside them the model's own fields: the
configuration, the events of the last edge, and the port inputs still to come. -/

namespace Sys2Proof.Machine

/-- The two events an operation may emit (R14). -/
inductive Event where
  /-- `TMR_RELOAD`: a request that the external countdown register be reloaded. -/
  | tmrReload
  /-- `TICK_CLR`: a request that the external pending-tick flag be cleared. -/
  | tickClr
deriving DecidableEq, Repr

/-- What the environment drives on the input ports at one rising clock edge (R45). -/
structure PortInput where
  /-- `rst`, synchronous and active high. -/
  rst : Bool
  /-- `cmd_valid`. -/
  cmdValid : Bool
  /-- `cmd[15:0]`. -/
  cmd : Word
deriving DecidableEq, Repr

/-- An edge that presents the command word `w`. -/
def PortInput.command (w : Word) : PortInput := ⟨false, true, w⟩

/-- An edge at which nothing is presented. -/
def PortInput.quiet : PortInput := ⟨false, false, 0⟩

/-- An edge with `rst` at 1 and nothing else presented. -/
def PortInput.reset : PortInput := ⟨true, false, 0⟩

/-- The state. The first sixteen fields are the registers of R20, "and nothing else" belongs to the block;
a 1-bit register is a Bool (R12, "a Boolean (written 0/1)"). The last three are the model's (log entries 1, 3, 4). -/
structure State where
  /-- TC, TickCount, 27 bits (R21). -/
  tc : BitVec 27
  /-- MS, Millis, 10 bits (R22). -/
  ms : BitVec 10
  /-- PREV, previous motion state (R23). -/
  prev : Bool
  /-- MOV, latest motion classification (R24). -/
  mov : Bool
  /-- MEP, epoch of the last motion check, 3 bits (R25). -/
  mep : BitVec 3
  /-- ACC, ambient filter accumulator, 10 bits (R26). -/
  acc : BitVec 10
  /-- DARK, ambient dark flag (R27). -/
  dark : Bool
  /-- SPC, software-PWM and sampling counter, 8 bits (R28). -/
  spc : BitVec 8
  /-- PWR_EN, power-enable output (R29). -/
  pwrEn : Bool
  /-- IDLE, the idle decision of the last DUTY (R30). -/
  idle : Bool
  /-- DUTY_HEAD, headlight duty output, 8 bits (R31). -/
  dutyHead : BitVec 8
  /-- DUTY_TAIL, tail-lamp duty output, 8 bits (R32). -/
  dutyTail : BitVec 8
  /-- DUTY_METER, meter-lamp duty output, 8 bits (R33). -/
  dutyMeter : BitVec 8
  /-- AUX, auxiliary pin output (R34). -/
  aux : Bool
  /-- FAULT, sticky fault flag (R35). -/
  fault : Bool
  /-- FCAUSE, cause of the first fault, 2 bits (R35). -/
  fcause : BitVec 2
  /-- The configuration (R8), a parameter that nothing writes. -/
  cfg : Config
  /-- The events emitted at the last clock edge, in emission order (R14, R46). -/
  events : List Event
  /-- What the environment presents at the coming edges, the next one first (R45, R47). -/
  inputs : List PortInput
deriving DecidableEq, Repr

/-- No step of the block ends in a fault: no operation can fault (R210), and the illegal-command fault is a state
change after which the block goes on (R211). The type has no constructor. Safe: it claims only that the model
never stops where the spec goes on, and every step is shown to complete. -/
inductive Fault
deriving DecidableEq, Repr

/-- Why the model refuses to give a behaviour. -/
inductive Refusal where
  /-- Raised by `exec` for an instruction without a meaning; no arm of it does so. Safe: the model stops. -/
  | notModelled (mnemonic : String)
  /-- Raised by every operation and every edge when `cfg_ok` is false of the configuration (R10; U9, treatment
  `refuse`). Safe: the spec gives such a configuration no behaviour, and the model gives it none. -/
  | illFormedConfig
deriving DecidableEq, Repr

/-- The reset state under the configuration `c`: the register values of R48, no event (R240), nothing presented. -/
def State.resetWith (c : Config) : State where
  tc := 0
  ms := 0
  prev := false
  mov := false
  mep := 0
  acc := 0
  dark := true
  spc := 0
  pwrEn := false
  idle := false
  dutyHead := 0
  dutyTail := 0
  dutyMeter := 0
  aux := false
  fault := false
  fcause := 0
  cfg := c
  events := []
  inputs := []

/-- The machine right after reset (R48), with the reference configuration of the spec (log entry 2). -/
def State.reset : State := State.resetWith Config.reference

end Sys2Proof.Machine
end

