-- ==== Sys2Proof/Machine/Operands.lean ====
section
/-! DEFINITION. The operand forms (R81, R131, R132): an analog sample and the level of the sense pin, and the value
an analog sample stands for. There is no other operand form. -/

namespace Sys2Proof.Machine

/-- `raw = zext(OPD)`: an analog sample as the unsigned number 0 .. 1023, used as it stands (R81, R131). -/
def sampleValue (raw : Sample) : Nat := raw.toNat

/-- `cur := lvl`: level 1 of the sense pin means moving (R132, R146). -/
def levelMoving (lvl : Bool) : Bool := lvl

end Sys2Proof.Machine
end

