-- ==== Sys2Proof/Machine/Flags.lean ====
section
/-! DEFINITION. The decisions and flag computations: the motion classification, the cadence gate, the honoured-change
test, the idle condition, the dark latch, the flash windows and the auxiliary pin. All compare by value (R13). -/

namespace Sys2Proof.Machine

/-- The classification of MOTA: moving exactly when `raw > MOTION_TH` (R145). -/
def sampleMoving (c : Config) (raw : Sample) : Bool := decide (c.motionTh < sampleValue raw)

/-- `MS[9:7]`, the number of the aligned 128-tick window (R144). -/
def State.window (s : State) : BitVec 3 := s.ms.extractLsb' 7 3

/-- `gate_open()`: always under EVERY_ITER (R143), `MS[9:7] != MEP` under RATE128 (R144). -/
def State.gateOpen (s : State) : Bool :=
  match s.cfg.motionPolicy with
  | .everyIter => true
  | .rate128 => s.window != s.mep

/-- What MEP holds after a motion check that was let through: the window under RATE128, itself under EVERY_ITER
(R143, R144). -/
def State.checkedEpoch (s : State) : BitVec 3 :=
  match s.cfg.motionPolicy with
  | .everyIter => s.mep
  | .rate128 => s.window

/-- The settle test `TC > SETTLE_TH`, strictly greater (R142). -/
def State.settled (s : State) : Bool := decide (s.cfg.settleTh < s.tc.toNat)

/-- A change to the classification `cur` is honoured: gate open, settled, and different from PREV (R142). -/
def State.honours (s : State) (cur : Bool) : Bool := s.gateOpen && s.settled && cur != s.prev

/-- The idle condition `TC > IDLE_TH`, strictly greater (R147). -/
def State.isIdle (s : State) : Bool := decide (s.cfg.idleTh < s.tc.toNat)

/-- The sampling gate of AMB: `SPC == 0` (R160). -/
def State.sampling (s : State) : Bool := s.spc == 0

/-- The latch `classify(a)` of R166: the new value of DARK from its old value and the new accumulator value. -/
def classify (c : Config) (dark : Bool) (a : Nat) : Bool :=
  if dark && decide (c.thHi < a) then false
  else if !dark && decide (a ≤ c.thLo) then true
  else dark

/-- `in_flash(m)` of R184: both windows closed below and open above. -/
def inFlash (c : Config) (m : Nat) : Bool :=
  decide (m < c.tailD) || (decide (c.tailP ≤ m) && decide (m < c.tailP + c.tailD))

/-- The software-PWM pin: dark and `SPC < SW_DUTY` (R188). -/
def State.pwmHigh (s : State) : Bool := s.dark && decide (s.spc.toNat < s.cfg.swDuty)

/-- The three phases of the idle timer (R204). They are a function of TC and are not stored. -/
inductive IdlePhase where
  /-- `TC <= SETTLE_TH`: changes are not honoured. -/
  | settling
  /-- `SETTLE_TH < TC <= IDLE_TH`: a change is honoured, not idle. -/
  | armed
  /-- `TC > IDLE_TH`: DUTY forces the outputs off. -/
  | idle
deriving DecidableEq, Repr

/-- The phase of R204, for a configuration with `SETTLE_TH < IDLE_TH`. -/
def State.phase (s : State) : IdlePhase :=
  if s.tc.toNat ≤ s.cfg.settleTh then .settling
  else if s.tc.toNat ≤ s.cfg.idleTh then .armed
  else .idle

end Sys2Proof.Machine
end

