-- ==== Sys2Proof/Machine/Ops.lean ====
section
/-! DEFINITION. The shared operations over registers: the non-plain updates of R15, the moving average, emission of
events, the Reset-Counter procedure, the motion step, the loading of the filter, the lamp lookups, the illegal-command
fault (the block's one exception; it has no return, R219), reset, and the guard on the configuration. -/

namespace Sys2Proof.Machine

/-- `sat_inc(x, ceil)` of R15. -/
def satInc (x ceil : Nat) : Nat := if x < ceil then x + 1 else x

/-- `ring_inc(x)` of R15. -/
def ringInc (x : Nat) : Nat := (x + 1) % millisRing

/-- `per_inc(x, p)` of R15. -/
def perInc (x p : Nat) : Nat := if p ≤ x + 1 then 0 else x + 1

/-- `ema_next(acc, s)` of R162 with shift `k`: each term shifted by itself, then subtract, then add. -/
def emaNext (k acc s : Nat) : Nat := acc - (acc >>> k) + (s >>> k)

/-- An operation completes with the state `t`; under a configuration that is not well formed it has no behaviour
(R10, U9). -/
def State.complete (s t : State) : Host.Outcome State Fault Refusal :=
  if s.cfg.ok then .next t else .refused .illFormedConfig

/-- `emit E`: append to the operation's event list (R13, R14). -/
def State.emit (s : State) (e : Event) : State := { s with events := s.events ++ [e] }

/-- The counters of TICK: TC by `sat_inc`, MS by `ring_inc` (R110 (a), (b)). -/
def State.advanceCounters (s : State) : State :=
  { s with
    tc := BitVec.ofNat 27 (satInc s.tc.toNat s.cfg.tickCeil)
    ms := BitVec.ofNat 10 (ringInc s.ms.toNat) }

/-- `TC <- 0` of R111. -/
def State.zeroTickCount (s : State) : State := { s with tc := 0 }

/-- `do_rstcnt` of R111: zero TC, then TMR_RELOAD, then TICK_CLR. -/
def State.doRstcnt (s : State) : State := (s.zeroTickCount.emit .tmrReload).emit .tickClr

/-- The motion check that was let through: MEP by the cadence gate, MOV <- cur (R140, R141, R144). -/
def State.noteMotion (s : State) (cur : Bool) : State := { s with mep := s.checkedEpoch, mov := cur }

/-- `PREV <- cur` of R142. -/
def State.rememberMotion (s : State) (cur : Bool) : State := { s with prev := cur }

/-- `motion_step(cur)` of R140: nothing with the gate shut; else MEP and MOV, and on an honoured change
`do_rstcnt` and PREV. -/
def State.motionStep (s : State) (cur : Bool) : State :=
  if s.gateOpen then
    if s.honours cur then (s.noteMotion cur).doRstcnt.rememberMotion cur else s.noteMotion cur
  else s

/-- `ACC <- a`, then `classify(a)` (R160, R161, R166). -/
def State.loadFilter (s : State) (a : Nat) : State :=
  { s with acc := BitVec.ofNat 10 a, dark := classify s.cfg s.dark a }

/-- The outputs of an idle DUTY: all off, IDLE set (R181). -/
def State.lampsOff (s : State) : State :=
  { s with idle := true, pwrEn := false, dutyHead := 0, dutyTail := 0, dutyMeter := 0, aux := false }

/-- The headlight value (R182). -/
def State.headDuty (s : State) : BitVec 8 :=
  BitVec.ofNat 8 (if s.dark then s.cfg.headDark else s.cfg.headBright)

/-- The tail value (R183, R184). -/
def State.tailDuty (s : State) : BitVec 8 :=
  BitVec.ofNat 8 (if inFlash s.cfg s.ms.toNat then s.cfg.tailFlash else s.cfg.tailDim)

/-- The meter value: a constant by DARK in mode HW (R186), 0 in mode SW (R187). -/
def State.meterDuty (s : State) : BitVec 8 :=
  match s.cfg.meterMode with
  | .hw => BitVec.ofNat 8 (if s.dark then s.cfg.meterDark else s.cfg.meterBright)
  | .sw => 0

/-- The auxiliary pin: 0 in mode HW (R186), the software PWM in mode SW (R188). -/
def State.auxPin (s : State) : Bool :=
  match s.cfg.meterMode with
  | .hw => false
  | .sw => s.pwmHigh

/-- The outputs of a DUTY that is not idle (R180, R182 to R188). -/
def State.lampsOn (s : State) : State :=
  { s with
    idle := false
    pwrEn := true
    dutyHead := s.headDuty
    dutyTail := s.tailDuty
    dutyMeter := s.meterDuty
    aux := s.auxPin }

/-- `SPC <- per_inc(SPC, SW_PERIOD)` (R189). -/
def State.advancePwm (s : State) : State :=
  { s with spc := BitVec.ofNat 8 (perInc s.spc.toNat s.cfg.swPeriod) }

/-- `raise Fault(code)` of R211: the cause is recorded only by the first fault; nothing else changes. -/
def State.raiseFault (s : State) (code : BitVec 2) : State :=
  { s with fcause := if s.fault then s.fcause else code, fault := true }

/-- Reset: every register to its value of R48, no event (R240); the configuration and what the environment will
present next are no registers. -/
def State.resetRegisters (s : State) : State := { State.resetWith s.cfg with inputs := s.inputs }

/-- What the input ports carry at the next edge. With nothing listed, nothing is presented (log entry 4). -/
def State.portInput (s : State) : PortInput := s.inputs.head?.getD PortInput.quiet

/-- The state at the start of an edge: its input taken, the event pulses of the edge before over (R46). -/
def State.beginEdge (s : State) : State := { s with events := [], inputs := s.inputs.tail }

/-- Present one command word at the very next edge, ahead of what was to come. -/
def State.present (s : State) (w : Word) : State := { s with inputs := PortInput.command w :: s.inputs }

end Sys2Proof.Machine
end

