-- ==== Sys2Proof/Machine/Ambient.lean ====
section
/-! DEFINITION. AMB and SEED (spec/43_ambient_filter.md). -/

namespace Sys2Proof.Machine

/-- AMB: one step of the moving average when the sampling gate is open, else nothing (R160). -/
def execAmb (raw : Sample) (s : State) : Host.Outcome State Fault Refusal :=
  s.complete (if s.sampling then s.loadFilter (emaNext s.cfg.emaK s.acc.toNat (sampleValue raw)) else s)

/-- SEED: load the reading, whatever the gate (R161). -/
def execSeed (raw : Sample) (s : State) : Host.Outcome State Fault Refusal :=
  s.complete (s.loadFilter (sampleValue raw))

end Sys2Proof.Machine
end

