-- ==== Sys2Proof/Machine/Lamp.lean ====
section
/-! DEFINITION. DUTY (spec/44_lamp_duty.md). -/

namespace Sys2Proof.Machine

/-- DUTY: the idle decision, the outputs, then the software-PWM counter, idle or not (R180). -/
def execDuty (s : State) : Host.Outcome State Fault Refusal :=
  s.complete (if s.isIdle then s.lampsOff else s.lampsOn).advancePwm

end Sys2Proof.Machine
end

