-- ==== Sys2Proof/Machine/Motion.lean ====
section
/-! DEFINITION. MOTA and MOTD (spec/42_motion_idle.md). -/

namespace Sys2Proof.Machine

/-- MOTA: classify the sample, then `motion_step` (R145). -/
def execMota (raw : Sample) (s : State) : Host.Outcome State Fault Refusal :=
  s.complete (s.motionStep (sampleMoving s.cfg raw))

/-- MOTD: the pin level, then `motion_step` (R146). -/
def execMotd (lvl : Bool) (s : State) : Host.Outcome State Fault Refusal :=
  s.complete (s.motionStep (levelMoving lvl))

end Sys2Proof.Machine
end

