-- ==== Sys2Proof/Machine/TickCounters.lean ====
section
/-! DEFINITION. NOP, TICK and RSTCNT (spec/40_tick_counters.md). -/

namespace Sys2Proof.Machine

/-- NOP: nothing (R118). -/
def execNop (s : State) : Host.Outcome State Fault Refusal := s.complete s

/-- TICK: advance both counters, then TMR_RELOAD and TICK_CLR (R110). -/
def execTick (s : State) : Host.Outcome State Fault Refusal :=
  s.complete ((s.advanceCounters.emit .tmrReload).emit .tickClr)

/-- RSTCNT: `do_rstcnt` (R114). -/
def execRstcnt (s : State) : Host.Outcome State Fault Refusal := s.complete s.doRstcnt

end Sys2Proof.Machine
end

