-- ==== Sys2Proof/Machine/Dispatch.lean ====
section
/-! DEFINITION. One arm per operation of R82. -/

namespace Sys2Proof.Machine

def exec (i : Instr) (s : State) : Host.Outcome State Fault Refusal :=
  match i with
  | .nop => Sys2Proof.Machine.execNop s
  | .tick => Sys2Proof.Machine.execTick s
  | .rstcnt => Sys2Proof.Machine.execRstcnt s
  | .mota raw => Sys2Proof.Machine.execMota raw s
  | .motd lvl => Sys2Proof.Machine.execMotd lvl s
  | .amb raw => Sys2Proof.Machine.execAmb raw s
  | .seed raw => Sys2Proof.Machine.execSeed raw s
  | .duty => Sys2Proof.Machine.execDuty s

end Sys2Proof.Machine
end

