-- ==== Sys2Proof/Machine/Edge.lean ====
section
/-! DEFINITION. One rising clock edge (R45, R240) and the ports (R46). -/

namespace Sys2Proof.Machine

/-- The command word `w` is accepted: its operation is executed, or the illegal-command fault is raised and nothing
is executed (R84, R211). -/
def State.accept (s : State) (w : Word) : Host.Outcome State Fault Refusal :=
  match decode w with
  | .op i => exec i s
  | .illegal why => s.complete (s.raiseFault why.code)

/-- A rising edge with the input `p`, from the state at its start: `rst` wins over `cmd_valid` (R240), a valid
command is accepted, and without either the registers hold (R45). -/
def State.edgeWith (s : State) (p : PortInput) : Host.Outcome State Fault Refusal :=
  if p.rst then s.complete s.resetRegisters
  else if p.cmdValid then s.accept p.cmd
  else s.complete s

/-- One rising clock edge. -/
def State.clockEdge (s : State) : Host.Outcome State Fault Refusal := s.beginEdge.edgeWith s.portInput

/-- The output ports and the observation ports of R46. -/
structure Outputs where
  pwrEn : Bool
  idle : Bool
  dutyHead : BitVec 8
  dutyTail : BitVec 8
  dutyMeter : BitVec 8
  aux : Bool
  dark : Bool
  mov : Bool
  fault : Bool
  fcause : BitVec 2
  /-- Observation port. -/
  tc : BitVec 27
  /-- Observation port. -/
  ms : BitVec 10
  /-- Observation port. -/
  acc : BitVec 10
  /-- Observation port. -/
  prev : Bool
  /-- Observation port. -/
  mep : BitVec 3
  /-- Observation port. -/
  spc : BitVec 8
  /-- Pulse: the operation of the last edge emitted TMR_RELOAD. -/
  tmrReload : Bool
  /-- Pulse: the operation of the last edge emitted TICK_CLR. -/
  tickClr : Bool
deriving DecidableEq, Repr

/-- What the ports carry: every register with its current value, and the two pulses (R46). Reading them changes
nothing (R68). -/
def State.outputs (s : State) : Outputs where
  pwrEn := s.pwrEn
  idle := s.idle
  dutyHead := s.dutyHead
  dutyTail := s.dutyTail
  dutyMeter := s.dutyMeter
  aux := s.aux
  dark := s.dark
  mov := s.mov
  fault := s.fault
  fcause := s.fcause
  tc := s.tc
  ms := s.ms
  acc := s.acc
  prev := s.prev
  mep := s.mep
  spc := s.spc
  tmrReload := s.events.contains .tmrReload
  tickClr := s.events.contains .tickClr

end Sys2Proof.Machine
end

