-- ==== Sys2Proof/Machine/Step.lean ====
section
/-! DEFINITION. The step of the machine is one rising clock edge; a word is presented to it on the command port. -/

namespace Sys2Proof.Machine

/-- One step: one rising clock edge (R45). -/
def step (s : State) : Host.Outcome State Fault Refusal := s.clockEdge

/-- The state in which the word of `nbits` bits with value `w` is the command of the very next edge. -/
def State.withFetchWord (s : State) (nbits w : Nat) : State := s.present (commandWord nbits w)

end Sys2Proof.Machine
end

