-- ==== Sys2Proof/Machine/Assembler.lean ====
section
/-! DEFINITION. The textual form of commands (R88) and the pseudo-operations (R90): the operand checks and expansions,
and a reader of one source line. A program is a list of lines, from first to last (R89). What R88 leaves open about
blanks and digits is log entry 6. -/

namespace Sys2Proof.Machine

/-- One source line after reading: a command or a pseudo-operation with the numbers as written. -/
inductive AsmLine where
  | nop
  | tick
  | rstcnt
  | mota (m : Nat)
  | motd (b : Nat)
  | amb (l : Nat)
  | seed (l : Nat)
  | duty
  /-- `ITER #m, #l`. -/
  | iter (m l : Nat)
  /-- `ITERD #b, #l`. -/
  | iterd (b l : Nat)
  /-- `TICKS n`. -/
  | ticks (n : Nat)
  /-- `ITERS n, #m, #l`. -/
  | iters (n m l : Nat)
deriving DecidableEq, Repr

/-- A sample operand outside 0 .. 1023 is rejected (R88). -/
def asmSample (n : Nat) : Option Sample := if n ≤ sampleMax then some (BitVec.ofNat 10 n) else none

/-- A pin level outside 0 .. 1 is rejected (R88). -/
def asmLevel (n : Nat) : Option Bool := if n ≤ 1 then some (n == 1) else none

/-- The commands of `ITER` (R90, R200): motion command, AMB, DUTY. -/
def iteration (motion : Instr) (light : Sample) : List Instr := [motion, .amb light, .duty]

/-- The commands a line stands for, or none where an operand is out of range (R88, R90). -/
def AsmLine.expand : AsmLine → Option (List Instr)
  | .nop => some [.nop]
  | .tick => some [.tick]
  | .rstcnt => some [.rstcnt]
  | .mota m => (asmSample m).map fun x => [.mota x]
  | .motd b => (asmLevel b).map fun x => [.motd x]
  | .amb l => (asmSample l).map fun x => [.amb x]
  | .seed l => (asmSample l).map fun x => [.seed x]
  | .duty => some [.duty]
  | .iter m l => (asmSample m).bind fun x => (asmSample l).map fun y => iteration (.mota x) y
  | .iterd b l => (asmLevel b).bind fun x => (asmSample l).map fun y => iteration (.motd x) y
  | .ticks n => some (List.replicate n .tick)
  | .iters n m l =>
    (asmSample m).bind fun x => (asmSample l).map fun y => (List.replicate n (iteration (.mota x) y)).flatten

/-- An operand as written: `#` and a number, or a bare decimal count. -/
inductive AsmOperand where
  | immediate (n : Nat)
  | count (n : Nat)
deriving DecidableEq, Repr

/-- The value of a decimal digit. -/
def decDigit (ch : Char) : Option Nat :=
  if '0' ≤ ch ∧ ch ≤ '9' then some (ch.toNat - 48) else none

/-- The value of a hexadecimal digit, letters of either case. -/
def hexDigit (ch : Char) : Option Nat :=
  if '0' ≤ ch ∧ ch ≤ '9' then some (ch.toNat - 48)
  else if 'a' ≤ ch ∧ ch ≤ 'f' then some (ch.toNat - 87)
  else if 'A' ≤ ch ∧ ch ≤ 'F' then some (ch.toNat - 55)
  else none

/-- Digits after those already read, whose value so far is `acc`. -/
def readDigits (base : Nat) (digit : Char → Option Nat) (acc : Nat) : List Char → Option Nat
  | [] => some acc
  | ch :: rest => (digit ch).bind fun d => readDigits base digit (acc * base + d) rest

/-- A number in the given base, of at least one digit. -/
def readNumber (base : Nat) (digit : Char → Option Nat) (text : List Char) : Option Nat :=
  if text.isEmpty then none else readDigits base digit 0 text

/-- One operand: `#` and a decimal number, `#0x` and a hexadecimal number (R88), or a decimal count (R90). -/
def readOperand : List Char → Option AsmOperand
  | '#' :: '0' :: 'x' :: text => (readNumber 16 hexDigit text).map .immediate
  | '#' :: text => (readNumber 10 decDigit text).map .immediate
  | text => (readNumber 10 decDigit text).map .count

/-- A blank: space, tab or carriage return. -/
def isBlank (ch : Char) : Bool := ch == ' ' || ch == '\t' || ch == '\r'

/-- The text without blanks at its two ends. -/
def trim (text : List Char) : List Char := ((text.dropWhile isBlank).reverse.dropWhile isBlank).reverse

/-- The text up to a comment, which runs from `;` to the end of the line (R88). -/
def withoutComment (text : List Char) : List Char := text.takeWhile (· != ';')

/-- The pieces of a text between commas. -/
def splitCommas : List Char → List (List Char)
  | [] => [[]]
  | ch :: rest =>
    match splitCommas rest with
    | [] => [[ch]]
    | piece :: more => if ch == ',' then [] :: piece :: more else (ch :: piece) :: more

/-- The operands of a line, in order. -/
def readOperands (text : List Char) : Option (List AsmOperand) :=
  if (trim text).isEmpty then some [] else (splitCommas text).mapM fun piece => readOperand (trim piece)

/-- A mnemonic with its operands; any other shape is rejected (R88: "any operand on NOP, TICK, RSTCNT or DUTY"). -/
def asmLineOf (mnemonic : List Char) (operands : List AsmOperand) : Option AsmLine :=
  match mnemonic, operands with
  | ['N', 'O', 'P'], [] => some .nop
  | ['T', 'I', 'C', 'K'], [] => some .tick
  | ['R', 'S', 'T', 'C', 'N', 'T'], [] => some .rstcnt
  | ['M', 'O', 'T', 'A'], [.immediate m] => some (.mota m)
  | ['M', 'O', 'T', 'D'], [.immediate b] => some (.motd b)
  | ['A', 'M', 'B'], [.immediate l] => some (.amb l)
  | ['S', 'E', 'E', 'D'], [.immediate l] => some (.seed l)
  | ['D', 'U', 'T', 'Y'], [] => some .duty
  | ['I', 'T', 'E', 'R'], [.immediate m, .immediate l] => some (.iter m l)
  | ['I', 'T', 'E', 'R', 'D'], [.immediate b, .immediate l] => some (.iterd b l)
  | ['T', 'I', 'C', 'K', 'S'], [.count n] => some (.ticks n)
  | ['I', 'T', 'E', 'R', 'S'], [.count n, .immediate m, .immediate l] => some (.iters n m l)
  | _, _ => none

/-- The commands of one source line: none where the assembler rejects it, no command for a line that is empty but for
blanks and a comment. -/
def assembleLine (text : List Char) : Option (List Instr) :=
  let body := trim (withoutComment text)
  if body.isEmpty then some []
  else
    let mnemonic := body.takeWhile fun ch => !isBlank ch
    (readOperands (body.drop mnemonic.length)).bind fun operands =>
      (asmLineOf mnemonic operands).bind AsmLine.expand

/-- The command words of a program, its lines from first to last (R89); none where a line is rejected. -/
def assemble (lines : List (List Char)) : Option (List Word) :=
  (lines.mapM assembleLine).map fun parts => parts.flatten.map encode

end Sys2Proof.Machine
end

