-- ==== Sys2Proof/Machine/Run.lean ====
section
/-! DEFINITION. A run (R202): a finite list of command words applied from a start state, one per edge; its end state,
and its observable result, what the ports carry after each command. -/

namespace Sys2Proof.Machine

/-- The end state of a run: the words presented one after another, stopping where the machine stops. -/
def runWords : List Word → State → Host.Outcome State Fault Refusal
  | [], s => .next s
  | w :: ws, s =>
    match step (s.present w) with
    | .next t => runWords ws t
    | .fault r => .fault r
    | .refused r => .refused r

/-- The run of a list of operations: the run of their words. -/
def runOps (is : List Instr) (s : State) : Host.Outcome State Fault Refusal := runWords (is.map encode) s

/-- The observable result of a run: the ports after each command (R202). -/
def traceWords : List Word → State → List Outputs
  | [], _ => []
  | w :: ws, s =>
    match step (s.present w) with
    | .next t => t.outputs :: traceWords ws t
    | .fault _ => []
    | .refused _ => []

/-- One command of a run: the state it found, the operation, and the state it left. -/
structure Visit where
  before : State
  op : Instr
  after : State
deriving DecidableEq, Repr

/-- The commands of the run of a list of operations, in order, up to where the machine stops. What R202 calls the
result of a run is read from the states they leave. -/
def visits : List Instr → State → List Visit
  | [], _ => []
  | i :: is, s =>
    match step (s.present (encode i)) with
    | .next t => ⟨s, i, t⟩ :: visits is t
    | .fault _ => []
    | .refused _ => []

end Sys2Proof.Machine
end

