-- ==== Sys2Proof/Safety.lean ====
section
/-! DEFINITION. The terms the claims use: the invariant of R36 and R167 (2), reachability, and what a motion command
does as a relation between states (R140 to R144). -/

namespace Sys2Proof.Machine

/-- Registers inside their ranges: R36 (1) to (5). MS and ACC need no clause beyond their widths, and have one. -/
structure State.RangesHold (s : State) : Prop where
  tc : s.tc.toNat ≤ s.cfg.tickCeil
  ms : s.ms.toNat ≤ 1023
  acc : s.acc.toNat ≤ 1023
  spc : s.spc.toNat < s.cfg.swPeriod
  head : s.dutyHead.toNat ≤ 124
  tail : s.dutyTail.toNat ≤ 124
  meter : s.dutyMeter.toNat ≤ 124

/-- The outputs agree with the idle decision and the meter mode: R36 (6), (7), and R30. -/
structure State.OutputsAgree (s : State) : Prop where
  idleOff : s.idle = true → s.pwrEn = false ∧ s.dutyHead = 0 ∧ s.dutyTail = 0 ∧ s.dutyMeter = 0 ∧ s.aux = false
  swMeter : s.cfg.meterMode = .sw → s.dutyMeter = 0
  hwAux : s.cfg.meterMode = .hw → s.aux = false

/-- The latch agrees with the accumulator: R167 (2). -/
structure State.LatchAgrees (s : State) : Prop where
  bright : s.dark = false → s.cfg.thLo < s.acc.toNat
  dark : s.dark = true → s.acc.toNat ≤ s.cfg.thHi

/-- The invariant of every reachable state: a well-formed configuration, R36 (1) to (7), (9), (10), R167 (2), and that
cause code 3 is never written (R212). R36 (8) speaks of the past and is a statement about DUTY (log entry 8). -/
structure State.Inv (s : State) : Prop where
  cfgOk : s.cfg.ok = true
  ranges : s.RangesHold
  outputs : s.OutputsAgree
  latch : s.LatchAgrees
  epoch : s.cfg.motionPolicy = .everyIter → s.mep = 0
  noFault : s.fault = false → s.fcause = 0
  cause : s.fault = true → s.fcause = 1 ∨ s.fcause = 2

/-- Reachable from reset under a well-formed configuration, with any inputs whatever (R36, R69, R70). -/
inductive Reachable : State → Prop
  | reset (c : Config) (inputs : List PortInput) :
      c.ok = true → Reachable { State.resetWith c with inputs := inputs }
  | step (s t : State) : Reachable s → step s = .next t → Reachable t

/-- The classification a motion command makes of its operand, from R145 and R146; none for any other command. -/
def motionClass (c : Config) : Instr → Option Bool
  | .nop => none
  | .tick => none
  | .rstcnt => none
  | .mota raw => some (decide (c.motionTh < raw.toNat))
  | .motd lvl => some lvl
  | .amb _ => none
  | .seed _ => none
  | .duty => none

/-- The gate is shut (R144): RATE128, and the window is that of the last check. -/
abbrev State.GateShut (s : State) : Prop := s.cfg.motionPolicy = .rate128 ∧ s.ms.toNat / 128 = s.mep.toNat

/-- A change to `cur` would be honoured (R142). -/
abbrev State.HonouredAt (s : State) (cur : Bool) : Prop :=
  ¬ s.GateShut ∧ s.cfg.settleTh < s.tc.toNat ∧ cur ≠ s.prev

/-- The state differs from `s` in no register but those a motion command may write (R145). -/
abbrev State.MotionFrame (s t : State) : Prop :=
  { t with tc := s.tc, prev := s.prev, mov := s.mov, mep := s.mep, events := s.events } = s

/-- The effect of a motion command with classification `cur`: R140 to R144 read as a relation between the state
before and the state after. -/
structure State.MotionEffect (s : State) (cur : Bool) (t : State) : Prop where
  shut : s.GateShut → t = s
  mov : ¬ s.GateShut → t.mov = cur
  epochEvery : s.cfg.motionPolicy = .everyIter → t.mep = s.mep
  epochRate : s.cfg.motionPolicy = .rate128 → t.mep.toNat = s.ms.toNat / 128
  honoured : s.HonouredAt cur → t.tc = 0 ∧ t.prev = cur ∧ t.events = s.events ++ [.tmrReload, .tickClr]
  notHonoured : ¬ s.HonouredAt cur → t.tc = s.tc ∧ t.prev = s.prev ∧ t.events = s.events
  frame : s.MotionFrame t

/-- The number of TICK commands in a list of operations. -/
def tickCount (is : List Instr) : Nat := is.count .tick

/-- The operation would perform `do_rstcnt` in this state: RSTCNT, or a motion command that honours a change (R111,
R142). -/
abbrev State.ResetsCount (s : State) (i : Instr) : Prop :=
  i = .rstcnt ∨ ∃ cur, motionClass s.cfg i = some cur ∧ s.HonouredAt cur

/-- No operation of the run performs `do_rstcnt` in the state it finds (R115). -/
abbrev KeepsCount (is : List Instr) (s : State) : Prop := ∀ v ∈ visits is s, ¬ v.before.ResetsCount v.op

/-- How many DUTYs of the run leave the port AUX at 1 (R188, R190). -/
def auxCount (is : List Instr) (s : State) : Nat :=
  ((visits is s).filter fun v => decide (v.op = .duty) && v.after.outputs.aux).length

/-- How many changes of the motion classification are honoured along a run (R149), told by PREV, which changes
exactly when a change is honoured (R23, R142). -/
def honouredCount : List Instr → State → Nat
  | [], _ => 0
  | i :: is, s =>
    match exec i s with
    | .next t => (if t.prev = s.prev then 0 else 1) + honouredCount is t
    | .fault _ => 0
    | .refused _ => 0

end Sys2Proof.Machine
end

