-- ==== Sys2Proof/Certificates/Slice0/Obligations.lean ====
section
/-! DEFINITION. The statements for the provers. `s.events` and `s.inputs` are the model's own fields (log entries 3 and
4); `s.cfg` is the configuration (log entry 1), so that a statement about every state is about every configuration. -/

open Sys2Proof Sys2Proof.Machine

/-! ### Reset and the clock edge -/

/-- R48: the reset state, under every configuration and so at `State.reset`. -/
def Obligations.ResetHoldsTheStatedValues : Prop :=
  ∀ r : State, (r = State.reset ∨ ∃ c, r = State.resetWith c) →
    r.tc = 0 ∧ r.ms = 0 ∧ r.prev = false ∧ r.mov = false ∧ r.mep = 0 ∧ r.acc = 0 ∧ r.dark = true ∧ r.spc = 0 ∧
      r.pwrEn = false ∧ r.idle = false ∧ r.dutyHead = 0 ∧ r.dutyTail = 0 ∧ r.dutyMeter = 0 ∧ r.aux = false ∧
      r.fault = false ∧ r.fcause = 0

/-- R240: on an edge with `rst` at 1 every register takes its reset value whatever `cmd_valid` and `cmd` are, and no
event is emitted; the inputs still to come and the configuration stay. -/
def Obligations.ResetEdgeWinsOverTheCommand : Prop :=
  ∀ (s : State) (valid : Bool) (w : Word) (rest : List PortInput),
    s.cfg.ok = true → s.inputs = ⟨true, valid, w⟩ :: rest →
    step s = .next { State.resetWith s.cfg with inputs := rest }

/-- R45: what an edge does, by `rst` and `cmd_valid`; and (log entry 4) with nothing listed the registers hold. -/
def Obligations.ClockEdgeFollowsThePorts : Prop :=
  ∀ s : State, s.cfg.ok = true →
    (∀ p rest, s.inputs = p :: rest → p.rst = false → p.cmdValid = true →
      step s = State.accept { s with events := [], inputs := rest } p.cmd) ∧
    (∀ p rest, s.inputs = p :: rest → p.rst = false → p.cmdValid = false →
      step s = .next { s with events := [], inputs := rest }) ∧
    (∀ p rest, s.inputs = p :: rest → p.rst = true →
      step s = .next { State.resetWith s.cfg with inputs := rest }) ∧
    (s.inputs = [] → step s = .next { s with events := [] })

/-- A step runs the decoded operation: where the word at the command port decodes to `i`, the step is `exec` of `i`
with that input taken and the event pulses of the edge before over; and `withFetchWord` puts a word there. -/
def Obligations.StepRunsTheDecodedCommand : Prop :=
  (∀ (s : State) (w : Word) (rest : List PortInput) (i : Instr),
    s.inputs = PortInput.command w :: rest → decode w = .op i →
    step s = exec i { s with events := [], inputs := rest }) ∧
  (∀ (s : State) (w : Nat) (i : Instr), decodeTableWord 16 w = some i →
    step (s.withFetchWord 16 w) = exec i { s with events := [] })

/-- R210: no operation faults, for any state and any operand, and no edge does: each completes. -/
def Obligations.EveryOperationAndEdgeCompletes : Prop :=
  ∀ s : State, s.cfg.ok = true → (∃ t, step s = .next t) ∧ ∀ i, ∃ t, exec i s = .next t

/-- R10: `cfg_ok` is exactly the ranges of R8 with the cross-field conditions, and a configuration that fails it is
refused by every edge and every operation. -/
def Obligations.IllFormedConfigurationIsRefused : Prop :=
  (∀ c : Config, c.ok = true ↔
    (1 ≤ c.tickCeil ∧ c.tickCeil ≤ 2 ^ 27 - 1) ∧ c.motionTh ≤ 1023 ∧ c.settleTh ≤ c.tickCeil - 1 ∧
      c.idleTh ≤ c.tickCeil - 1 ∧ c.emaK ≤ 10 ∧ c.thLo ≤ 1023 ∧ c.thHi ≤ 1023 ∧ c.thLo ≤ c.thHi ∧
      c.headDark ≤ 124 ∧ c.headBright ≤ 124 ∧ c.tailFlash ≤ 124 ∧ c.tailDim ≤ 124 ∧
      c.tailD ≤ 1024 ∧ c.tailP ≤ 1024 ∧ c.tailD ≤ c.tailP ∧ c.tailP + c.tailD ≤ 1024 ∧
      c.meterDark ≤ 124 ∧ c.meterBright ≤ 124 ∧ 1 ≤ c.swPeriod ∧ c.swPeriod ≤ 255 ∧ c.swDuty ≤ c.swPeriod) ∧
  ∀ s : State, s.cfg.ok = false →
    step s = .refused .illFormedConfig ∧ ∀ i, exec i s = .refused .illFormedConfig

/-- The configuration is not state: no edge writes it, and an edge takes exactly one input (R39, R45, R241). -/
def Obligations.StepKeepsTheConfiguration : Prop :=
  ∀ s t : State, step s = .next t → t.cfg = s.cfg ∧ t.inputs = s.inputs.tail

/-- R46: the ports carry the registers, and after an edge the two pulse outputs are 1 exactly when the operation it
executed was TICK, RSTCNT, or a motion command that honoured a change. -/
def Obligations.PortsShowTheRegistersAndTheEvents : Prop :=
  (∀ s : State,
    s.outputs.pwrEn = s.pwrEn ∧ s.outputs.idle = s.idle ∧ s.outputs.dutyHead = s.dutyHead ∧
      s.outputs.dutyTail = s.dutyTail ∧ s.outputs.dutyMeter = s.dutyMeter ∧ s.outputs.aux = s.aux ∧
      s.outputs.dark = s.dark ∧ s.outputs.mov = s.mov ∧ s.outputs.fault = s.fault ∧ s.outputs.fcause = s.fcause ∧
      s.outputs.tc = s.tc ∧ s.outputs.ms = s.ms ∧ s.outputs.acc = s.acc ∧ s.outputs.prev = s.prev ∧
      s.outputs.mep = s.mep ∧ s.outputs.spc = s.spc) ∧
  ∀ s t : State, step s = .next t →
    (t.outputs.tmrReload = true ↔
      s.portInput.rst = false ∧ s.portInput.cmdValid = true ∧ ∃ i, decode s.portInput.cmd = .op i ∧
        (i = .tick ∨ i = .rstcnt ∨ ∃ cur, motionClass s.cfg i = some cur ∧ s.HonouredAt cur)) ∧
    t.outputs.tickClr = t.outputs.tmrReload

/-! ### Encoding -/

/-- The words of the operations (R85). -/
def Obligations.EncodingsAreTheTableWords : Prop :=
  encode .nop = 0x0000 ∧ encode .tick = 0x1000 ∧ encode .rstcnt = 0x2000 ∧ encode .duty = 0x7000 ∧
    (∀ raw : Sample, (encode (.mota raw)).toNat = 0x3000 + raw.toNat) ∧
    (∀ lvl : Bool, (encode (.motd lvl)).toNat = 0x4000 + lvl.toNat) ∧
    (∀ raw : Sample, (encode (.amb raw)).toNat = 0x5000 + raw.toNat) ∧
    (∀ raw : Sample, (encode (.seed raw)).toNat = 0x6000 + raw.toNat)

/-- Words of 95_test_vectors.md section 2.1, one of each family and three illegal ones. -/
def Obligations.WrittenWordsDecodeAsListed : Prop :=
  decode 0x1000 = .op .tick ∧ decode 0x3033 = .op (.mota 51) ∧ decode 0x4001 = .op (.motd true) ∧
    decode 0x51F4 = .op (.amb 500) ∧ decode 0x62BC = .op (.seed 700) ∧ decode 0x7000 = .op .duty ∧
    decode 0x9400 = .illegal .opcode ∧ decode 0x3400 = .illegal .reserved ∧ decode 0x4002 = .illegal .reserved

/-- R84 and R81: the decoder, check by check in its order, over OPC, RSV and OPD as quotients of the word. -/
def Obligations.DecoderFollowsTheChecksInOrder : Prop :=
  ∀ (w : Word) (opc rsv opd : Nat), opc = w.toNat / 4096 → rsv = w.toNat / 1024 % 4 → opd = w.toNat % 1024 →
    (8 ≤ opc → decode w = .illegal .opcode) ∧
    (opc < 8 → rsv ≠ 0 → decode w = .illegal .reserved) ∧
    (opc < 8 → rsv = 0 → (opc = 0 ∨ opc = 1 ∨ opc = 2 ∨ opc = 7) → opd ≠ 0 → decode w = .illegal .reserved) ∧
    (rsv = 0 → opc = 4 → opd / 2 ≠ 0 → decode w = .illegal .reserved) ∧
    (rsv = 0 → opd = 0 →
      (opc = 0 → decode w = .op .nop) ∧ (opc = 1 → decode w = .op .tick) ∧ (opc = 2 → decode w = .op .rstcnt) ∧
        (opc = 7 → decode w = .op .duty)) ∧
    (rsv = 0 → opc = 4 → opd / 2 = 0 → decode w = .op (.motd (decide (opd % 2 = 1)))) ∧
    (rsv = 0 →
      (opc = 3 → decode w = .op (.mota (BitVec.ofNat 10 opd))) ∧
        (opc = 5 → decode w = .op (.amb (BitVec.ofNat 10 opd))) ∧
        (opc = 6 → decode w = .op (.seed (BitVec.ofNat 10 opd))))

/-- Decoding an encoded operation gives it back, with every operand (R85). -/
def Obligations.DecodeUndoesEncode : Prop :=
  ∀ i : Instr, i.wellFormed = true ∧ decode (encode i) = .op i

/-- Encoding a decoded word gives it back: no two words are the same operation, and no bit is dropped (R85). -/
def Obligations.EncodeUndoesDecode : Prop :=
  ∀ (w : Word) (i : Instr), decode w = .op i → encode i = w

/-- R82: the eight rows; their patterns are disjoint; a word that decodes selects the row of its operation, and a word that
selects a row decodes to an operation of that row. -/
def Obligations.TableRowsSelectTheLegalWords : Prop :=
  opcodeMap =
    [⟨"NOP", 0x0000, 0xFFFF⟩, ⟨"TICK", 0x1000, 0xFFFF⟩, ⟨"RSTCNT", 0x2000, 0xFFFF⟩, ⟨"MOTA", 0x3000, 0xFC00⟩,
      ⟨"MOTD", 0x4000, 0xFFFE⟩, ⟨"AMB", 0x5000, 0xFC00⟩, ⟨"SEED", 0x6000, 0xFC00⟩, ⟨"DUTY", 0x7000, 0xFFFF⟩] ∧
  (∀ (r : TableRow) (w : Word), r.selects w = true ↔ w &&& r.mask = r.matchBits) ∧
  opcodeMap.Pairwise (fun r q => ∀ w : Word, ¬ (r.selects w = true ∧ q.selects w = true)) ∧
  (∀ w i, decode w = .op i → i.row ∈ opcodeMap ∧ i.row.selects w = true) ∧
  (∀ w, ∀ r ∈ opcodeMap, r.selects w = true → ∃ i, decode w = .op i ∧ i.row = r)

/-- R212: a word that is no command sets FAULT, and FCAUSE when FAULT was 0: 1 for an operation code of 8 or more, 2 for
reserved or must-be-zero bits that are not zero under a legal code; nothing else changes and no event is emitted. No
edge leaves FAULT at 1 with code 0 or 3, unless it found it so. -/
def Obligations.IllegalWordOnlyRecordsTheFault : Prop :=
  (∀ (s : State) (w : Word) (rest : List PortInput) (opc rsv opd : Nat),
    s.cfg.ok = true → s.inputs = PortInput.command w :: rest →
    opc = w.toNat / 4096 → rsv = w.toNat / 1024 % 4 → opd = w.toNat % 1024 →
    (8 ≤ opc →
      step s = .next
        { s with fault := true, fcause := if s.fault then s.fcause else 1, events := [], inputs := rest }) ∧
    (opc < 8 →
      rsv ≠ 0 ∨ ((opc = 0 ∨ opc = 1 ∨ opc = 2 ∨ opc = 7) ∧ opd ≠ 0) ∨ (opc = 4 ∧ opd / 2 ≠ 0) →
      step s = .next
        { s with fault := true, fcause := if s.fault then s.fcause else 2, events := [], inputs := rest })) ∧
  ∀ s t : State, step s = .next t → s.fault = false ∨ s.fcause = 1 ∨ s.fcause = 2 → t.fault = true →
    t.fcause = 1 ∨ t.fcause = 2

/-- A fault does not stop the block: every operation does what it would do with FAULT and FCAUSE at any other value, and
keeps them (R211). -/
def Obligations.FaultChangesNoOperation : Prop :=
  ∀ (i : Instr) (s t : State) (fault : Bool) (fcause : BitVec 2), exec i s = .next t →
    exec i { s with fault := fault, fcause := fcause } = .next { t with fault := fault, fcause := fcause }

/-- FAULT and FCAUSE change at an illegal word only while FAULT is 0, and nothing but reset clears them (R35, R212,
R241). -/
def Obligations.FaultIsStickyUntilReset : Prop :=
  ∀ s t : State, s.portInput.rst = false → step s = .next t →
    (s.fault = true → t.fault = true ∧ t.fcause = s.fcause) ∧
    (s.fault = false → t.fault = true → s.portInput.cmdValid = true ∧ ∀ i, encode i ≠ s.portInput.cmd)

/-! ### Tick counters -/

/-- R118: NOP changes nothing at all. -/
def Obligations.NopChangesNothing : Prop :=
  encode .nop = 0x0000 ∧ ∀ s : State, s.cfg.ok = true → exec .nop s = .next s

/-- R110: TICK, both counters, both events in order, and nothing else. -/
def Obligations.TickAdvancesBothCounters : Prop :=
  encode .tick = 0x1000 ∧
  ∀ s : State, s.cfg.ok = true → ∃ t, exec .tick s = .next t ∧
    t.tc.toNat = (if s.tc.toNat < s.cfg.tickCeil then s.tc.toNat + 1 else s.tc.toNat) ∧
    t.ms.toNat = (s.ms.toNat + 1) % 1024 ∧
    t.events = s.events ++ [.tmrReload, .tickClr] ∧
    { t with tc := s.tc, ms := s.ms, events := s.events } = s

/-- R111, R114: RSTCNT zeroes TC, emits both events in order, and changes nothing else. -/
def Obligations.RstcntZeroesTickCount : Prop :=
  encode .rstcnt = 0x2000 ∧
  ∀ s : State, s.cfg.ok = true →
    exec .rstcnt s = .next { s with tc := 0, events := s.events ++ [.tmrReload, .tickClr] }

/-- The counting law of TC (40_tick_counters.md section 3): along any run in which nothing performs `do_rstcnt`, motion
commands that honour no change among its operations, TC is the start value plus the number of TICKs, saturated at the
ceiling. -/
def Obligations.TickCountIsTheSaturatedNumberOfTicks : Prop :=
  ∀ (is : List Instr) (s : State), s.cfg.ok = true → s.tc.toNat ≤ s.cfg.tickCeil → KeepsCount is s →
    ∃ t, runOps is s = .next t ∧ t.tc.toNat = min (s.tc.toNat + tickCount is) s.cfg.tickCeil

/-- The ring law of MS (40_tick_counters.md section 3): along any operations whatever, MS advances by the number of
TICKs modulo 1024. -/
def Obligations.MillisCountsTheTicksModuloTheRing : Prop :=
  ∀ (is : List Instr) (s : State), s.cfg.ok = true →
    ∃ t, runOps is s = .next t ∧ t.ms.toNat = (s.ms.toNat + tickCount is) % 1024

/-- The two serialisations of a tick at a Reset-Counter, be it RSTCNT or a motion command that honours a change (R111,
R113): after the reset it yields 1, before it it is zeroed with the rest; MS counts it in both. Under EVERY_ITER a change
that would be honoured before the tick is honoured after it; under RATE128 the tick may shut the gate, so the second
order speaks of the state after it. -/
def Obligations.TickAtTheResetBoundaryIsNeitherLostNorDoubled : Prop :=
  ∀ (i : Instr) (s : State), s.cfg.ok = true →
    (s.ResetsCount i → ∃ t, runOps [i, .tick] s = .next t ∧ t.tc = 1 ∧ t.ms.toNat = (s.ms.toNat + 1) % 1024) ∧
    ∃ u, exec .tick s = .next u ∧
      (u.ResetsCount i → ∃ t, runOps [.tick, i] s = .next t ∧ t.tc = 0 ∧ t.ms.toNat = (s.ms.toNat + 1) % 1024) ∧
      (s.cfg.motionPolicy = .everyIter → s.ResetsCount i → u.ResetsCount i)

/-- R37: the tick context writes TC and MS (and emits its events) and nothing else; the control context never writes
MS, and TC only to zero it. -/
def Obligations.ContextsKeepToTheirWriteSets : Prop :=
  ∀ (i : Instr) (s t : State), exec i s = .next t →
    (i.context = .tick → { t with tc := s.tc, ms := s.ms, events := s.events } = s) ∧
    (i.context = .control → t.ms = s.ms ∧ (t.tc = s.tc ∨ t.tc = 0))

/-! ### Motion debounce and idle timer -/

/-- R145 with the motion step it runs: MOTA completes with the effect R140 to R144 give the classification
`raw > MOTION_TH`, which writes no other register. -/
def Obligations.MotaRunsTheMotionStep : Prop :=
  ∀ (s : State) (raw : Sample), s.cfg.ok = true →
    (encode (.mota raw)).toNat = 0x3000 + raw.toNat ∧
    ∃ t, exec (.mota raw) s = .next t ∧ s.MotionEffect (decide (s.cfg.motionTh < raw.toNat)) t

/-- R146 with the motion step it runs: MOTD completes with the effect of the pin's level, which writes no other
register. -/
def Obligations.MotdRunsTheMotionStep : Prop :=
  ∀ (s : State) (lvl : Bool), s.cfg.ok = true →
    (encode (.motd lvl)).toNat = 0x4000 + lvl.toNat ∧ ∃ t, exec (.motd lvl) s = .next t ∧ s.MotionEffect lvl t

/-- The transition table of R203, row by row, for either motion command, with R141 and R142: nothing with the gate shut;
with it open MOV becomes the classification, and a change is honoured exactly past the settle threshold. -/
def Obligations.MotionTransitionsAreTheTable : Prop :=
  ∀ (i : Instr) (cur : Bool) (s t : State), motionClass s.cfg i = some cur → exec i s = .next t →
    (s.GateShut → t = s) ∧
    (¬ s.GateShut → t.mov = cur) ∧
    (¬ s.GateShut → s.prev = cur → t.prev = cur ∧ t.tc = s.tc ∧ t.events = s.events) ∧
    (¬ s.GateShut → s.prev ≠ cur → s.tc.toNat ≤ s.cfg.settleTh →
      t.prev = s.prev ∧ t.tc = s.tc ∧ t.events = s.events) ∧
    (¬ s.GateShut → s.prev ≠ cur → s.cfg.settleTh < s.tc.toNat →
      t.prev = cur ∧ t.tc = 0 ∧ t.events = s.events ++ [.tmrReload, .tickClr])

/-- At most one motion check in an aligned window under RATE128 (R144): after a motion command, whatever happens that
leaves MEP and the window of MS alone, a second one changes nothing. -/
def Obligations.AtMostOneMotionCheckPerWindow : Prop :=
  ∀ (i j : Instr) (a b : Bool) (s t u : State), s.cfg.motionPolicy = .rate128 →
    motionClass s.cfg i = some a → motionClass s.cfg j = some b → exec i s = .next t →
    u.cfg = t.cfg → u.mep = t.mep → u.ms.toNat / 128 = s.ms.toNat / 128 → exec j u = .next u

/-- After reset under RATE128 the gate is shut until MS reaches 128 (R144), so no operation of a run with fewer than 128
TICKs changes MOV, PREV or MEP. -/
def Obligations.RateLimitedGateIsShutAfterReset : Prop :=
  ∀ (is : List Instr) (c : Config), c.ok = true → c.motionPolicy = .rate128 → tickCount is < 128 →
    ∃ t, runOps is (State.resetWith c) = .next t ∧ t.GateShut ∧ t.mov = false ∧ t.prev = false ∧ t.mep = 0

/-- Debounce (R149, R244): from a state with TC at 0, as reset and every honoured change leave it, no change can be
honoured before `SETTLE_TH + 1` TICKs, whatever the operations and samples are. -/
def Obligations.HonouredChangesAreSpacedByTicks : Prop :=
  ∀ (is : List Instr) (s t : State) (cur : Bool), s.tc = 0 → runOps is s = .next t → t.HonouredAt cur →
    s.cfg.settleTh + 1 ≤ tickCount is

/-- Debounce, the bound of R149: along any run with n TICKs at most `floor(n / (SETTLE_TH + 1)) + 1` changes are
honoured, whatever the operations and samples are. -/
def Obligations.MotionResetsAreBoundedByTheTicks : Prop :=
  ∀ (is : List Instr) (s : State), s.cfg.ok = true →
    honouredCount is s ≤ tickCount is / (s.cfg.settleTh + 1) + 1

/-- Leaving idleness (R150): only RSTCNT or an honoured motion change brings TC back to or below the idle threshold. -/
def Obligations.OnlyResetCounterLeavesIdleness : Prop :=
  ∀ (i : Instr) (s t : State), exec i s = .next t → s.cfg.idleTh < s.tc.toNat → t.tc.toNat ≤ s.cfg.idleTh →
    i = .rstcnt ∨ ∃ cur, motionClass s.cfg i = some cur ∧ s.HonouredAt cur

/-- The phases of the idle timer under TICK and RSTCNT (45_iteration.md section 2, R204). -/
def Obligations.IdlePhaseMovesOnlyForwardUnderTicks : Prop :=
  ∀ s t : State, s.cfg.settleTh < s.cfg.idleTh → exec .tick s = .next t →
    (s.phase = .settling → t.phase = if s.tc.toNat = s.cfg.settleTh then .armed else .settling) ∧
    (s.phase = .armed → t.phase = if s.tc.toNat = s.cfg.idleTh then .idle else .armed) ∧
    (s.phase = .idle → t.phase = .idle) ∧
    (∀ u, exec .rstcnt s = .next u → u.phase = .settling)

/-! ### Ambient filter -/

/-- R160, R162, R166: AMB. With the gate shut nothing changes; with it open ACC takes the moving average, DARK flips
only past its threshold, and nothing else changes. -/
def Obligations.AmbUpdatesTheFilterWhenSampling : Prop :=
  ∀ (s : State) (raw : Sample), s.cfg.ok = true →
    (encode (.amb raw)).toNat = 0x5000 + raw.toNat ∧
    (s.spc ≠ 0 → exec (.amb raw) s = .next s) ∧
    (s.spc = 0 → ∃ t, exec (.amb raw) s = .next t ∧
      t.acc.toNat =
        s.acc.toNat - s.acc.toNat / 2 ^ s.cfg.emaK + raw.toNat / 2 ^ s.cfg.emaK ∧
      (s.dark = true → (t.dark = false ↔ s.cfg.thHi < t.acc.toNat)) ∧
      (s.dark = false → (t.dark = true ↔ t.acc.toNat ≤ s.cfg.thLo)) ∧
      { t with acc := s.acc, dark := s.dark } = s)

/-- R161, R166: SEED loads the reading whatever the gate, DARK flips only past its threshold, and nothing else
changes. -/
def Obligations.SeedLoadsTheAccumulator : Prop :=
  ∀ (s : State) (raw : Sample), s.cfg.ok = true →
    (encode (.seed raw)).toNat = 0x6000 + raw.toNat ∧
    ∃ t, exec (.seed raw) s = .next t ∧ t.acc = raw ∧
      (s.dark = true → (t.dark = false ↔ s.cfg.thHi < raw.toNat)) ∧
      (s.dark = false → (t.dark = true ↔ raw.toNat ≤ s.cfg.thLo)) ∧
      { t with acc := s.acc, dark := s.dark } = s

/-- The range law (R164): one step of the moving average stays between the accumulator and the sample. -/
def Obligations.MovingAverageStaysBetweenItsArguments : Prop :=
  ∀ k acc s : Nat, min acc s ≤ emaNext k acc s ∧ emaNext k acc s ≤ max acc s

/-- Fixed points and progress (R165): the step rests exactly on the band of the sample, moves strictly towards it from
either side, and never jumps past its nearer end. -/
def Obligations.MovingAverageRestsOnTheBandOfTheSample : Prop :=
  ∀ k acc s q : Nat, q = s / 2 ^ k →
    (emaNext k acc s = acc ↔ 2 ^ k * q ≤ acc ∧ acc ≤ 2 ^ k * q + 2 ^ k - 1) ∧
    (acc < 2 ^ k * q → acc < emaNext k acc s ∧ emaNext k acc s ≤ 2 ^ k * q) ∧
    (2 ^ k * q + 2 ^ k - 1 < acc → 2 ^ k * q + 2 ^ k - 1 ≤ emaNext k acc s ∧ emaNext k acc s < acc)

/-- Convergence (R165, conflict C2): under one constant light sample with the gate open, after at most 1023 updates ACC
is, and stays, at the nearer end of the band of the sample. -/
def Obligations.ConstantLightConvergesToTheBand : Prop :=
  ∀ (s : State) (raw : Sample) (lo hi : Nat), s.cfg.ok = true → s.spc = 0 →
    lo = 2 ^ s.cfg.emaK * (raw.toNat / 2 ^ s.cfg.emaK) → hi = lo + 2 ^ s.cfg.emaK - 1 →
    ∀ n, 1023 ≤ n → ∃ t, runOps (List.replicate n (.amb raw)) s = .next t ∧
      t.acc.toNat = if s.acc.toNat < lo then lo else if hi < s.acc.toNat then hi else s.acc.toNat

/-- Hysteresis along a run (R167 (4)): while every light sample is above the low threshold a bright latch with its
accumulator above it stays bright, and symmetrically for dark and the high threshold. -/
def Obligations.LatchHoldsWhileSamplesStayOnItsSide : Prop :=
  ∀ (is : List Instr) (s t : State), runOps is s = .next t →
    (s.dark = false → s.cfg.thLo < s.acc.toNat →
      (∀ raw, Instr.amb raw ∈ is ∨ Instr.seed raw ∈ is → s.cfg.thLo < raw.toNat) →
      t.dark = false ∧ s.cfg.thLo < t.acc.toNat) ∧
    (s.dark = true → s.acc.toNat ≤ s.cfg.thHi →
      (∀ raw, Instr.amb raw ∈ is ∨ Instr.seed raw ∈ is → raw.toNat ≤ s.cfg.thHi) →
      t.dark = true ∧ t.acc.toNat ≤ s.cfg.thHi)

/-- The single-threshold policy (R168): with one threshold the latch has no memory. -/
def Obligations.SingleThresholdLatchHasNoMemory : Prop :=
  ∀ (i : Instr) (raw : Sample) (s t : State), s.cfg.thLo = s.cfg.thHi →
    (i = .seed raw ∨ (i = .amb raw ∧ s.spc = 0)) → exec i s = .next t →
    (t.dark = true ↔ t.acc.toNat ≤ s.cfg.thLo)

/-! ### Lamp duty lookup -/

/-- R180 with R181 to R189: DUTY, all seven registers it writes in both cases, and nothing else. -/
def Obligations.DutyDecidesIdlenessAndLooksUpTheLamps : Prop :=
  encode .duty = 0x7000 ∧
  ∀ s : State, s.cfg.ok = true → ∃ t, exec .duty s = .next t ∧
    (s.cfg.idleTh < s.tc.toNat →
      t.idle = true ∧ t.pwrEn = false ∧ t.dutyHead = 0 ∧ t.dutyTail = 0 ∧ t.dutyMeter = 0 ∧ t.aux = false) ∧
    (s.tc.toNat ≤ s.cfg.idleTh →
      t.idle = false ∧ t.pwrEn = true ∧
      t.dutyHead.toNat = (if s.dark then s.cfg.headDark else s.cfg.headBright) ∧
      t.dutyTail.toNat =
        (if s.ms.toNat < s.cfg.tailD ∨ (s.cfg.tailP ≤ s.ms.toNat ∧ s.ms.toNat < s.cfg.tailP + s.cfg.tailD)
          then s.cfg.tailFlash else s.cfg.tailDim) ∧
      (s.cfg.meterMode = .hw →
        t.dutyMeter.toNat = (if s.dark then s.cfg.meterDark else s.cfg.meterBright) ∧ t.aux = false) ∧
      (s.cfg.meterMode = .sw →
        t.dutyMeter = 0 ∧ (t.aux = true ↔ s.dark = true ∧ s.spc.toNat < s.cfg.swDuty))) ∧
    t.spc.toNat = (if s.cfg.swPeriod ≤ s.spc.toNat + 1 then 0 else s.spc.toNat + 1) ∧
    { t with
      idle := s.idle, pwrEn := s.pwrEn, dutyHead := s.dutyHead, dutyTail := s.dutyTail, dutyMeter := s.dutyMeter,
      aux := s.aux, spc := s.spc } = s

/-- The flash windows of the default constants D = 60 and P = 100 (R185), at a DUTY that is not idle. -/
def Obligations.DefaultTailFlashesInItsTwoWindows : Prop :=
  ∀ s t : State, s.cfg.tailD = 60 → s.cfg.tailP = 100 → s.tc.toNat ≤ s.cfg.idleTh → exec .duty s = .next t →
    (s.ms.toNat ≤ 59 ∨ (100 ≤ s.ms.toNat ∧ s.ms.toNat ≤ 159) → t.dutyTail.toNat = s.cfg.tailFlash) ∧
    ((60 ≤ s.ms.toNat ∧ s.ms.toNat ≤ 99) ∨ 160 ≤ s.ms.toNat → t.dutyTail.toNat = s.cfg.tailDim)

/-- Over one ring of MS the tail flashes at exactly `2 D` of the 1024 values (R185), for every well-formed
configuration: the two windows neither overlap nor leave the ring. -/
def Obligations.TailFlashesTwiceItsDurationPerRing : Prop :=
  ∀ c : Config, c.ok = true → ((List.range 1024).filter fun m => inFlash c m).length = 2 * c.tailD

/-- R192: what DUTY writes is a function of the configuration, TC, MS, DARK and SPC alone, and every duty it writes is
at most 124. -/
def Obligations.DutyDependsOnFourRegistersOnly : Prop :=
  ∀ s u s' u' : State, s.cfg = u.cfg → s.tc = u.tc → s.ms = u.ms → s.dark = u.dark → s.spc = u.spc →
    exec .duty s = .next s' → exec .duty u = .next u' →
    s'.idle = u'.idle ∧ s'.pwrEn = u'.pwrEn ∧ s'.dutyHead = u'.dutyHead ∧ s'.dutyTail = u'.dutyTail ∧
      s'.dutyMeter = u'.dutyMeter ∧ s'.aux = u'.aux ∧ s'.spc = u'.spc ∧
      s'.dutyHead.toNat ≤ 124 ∧ s'.dutyTail.toNat ≤ 124 ∧ s'.dutyMeter.toNat ≤ 124

/-- Only DUTY writes the seven output and counter registers (R28 to R34), and it raises AUX only from a state with DARK
at 1, in mode SW (R36 (8), log entry 8). -/
def Obligations.OnlyDutyWritesTheOutputs : Prop :=
  ∀ (i : Instr) (s t : State), exec i s = .next t →
    (i ≠ .duty →
      t.spc = s.spc ∧ t.pwrEn = s.pwrEn ∧ t.idle = s.idle ∧ t.dutyHead = s.dutyHead ∧ t.dutyTail = s.dutyTail ∧
        t.dutyMeter = s.dutyMeter ∧ t.aux = s.aux) ∧
    (i = .duty → t.aux = true → s.dark = true ∧ s.cfg.meterMode = .sw) ∧
    (i = .duty → t.pwrEn = !t.idle)

/-- The counter law of SPC (R190): along any run SPC advances by the number of DUTYs modulo the period. -/
def Obligations.PwmCounterCountsDutiesModuloThePeriod : Prop :=
  ∀ (is : List Instr) (s : State), s.cfg.ok = true → s.spc.toNat < s.cfg.swPeriod →
    ∃ t, runOps is s = .next t ∧ t.spc.toNat = (s.spc.toNat + is.count .duty) % s.cfg.swPeriod

/-- The on-count of the software PWM (R190): of any `SW_PERIOD` consecutive DUTYs that find the block dark and not idle,
exactly `SW_DUTY` write AUX to 1, wherever in the period they begin and whatever is done between them. -/
def Obligations.PwmIsHighForItsDutyInEveryPeriod : Prop :=
  ∀ (is : List Instr) (s : State), s.cfg.ok = true → s.cfg.meterMode = .sw → s.spc.toNat < s.cfg.swPeriod →
    is.count .duty = s.cfg.swPeriod →
    (∀ v ∈ visits is s, v.op = .duty → v.before.dark = true ∧ v.before.tc.toNat ≤ s.cfg.idleTh) →
    auxCount is s = s.cfg.swDuty

/-! ### Iterations and runs -/

/-- Turning idle (R258): after at least `IDLE_TH + 1` TICKs among operations of which none performs `do_rstcnt`, motion
commands that honour no change among them, a DUTY turns every output off. -/
def Obligations.QuietTimeTurnsTheOutputsOff : Prop :=
  ∀ (is : List Instr) (s : State), s.cfg.ok = true → s.tc.toNat ≤ s.cfg.tickCeil → KeepsCount is s →
    s.cfg.idleTh + 1 ≤ tickCount is →
    ∃ t, runOps (is ++ [.duty]) s = .next t ∧ t.idle = true ∧ t.pwrEn = false ∧ t.dutyHead = 0 ∧ t.dutyTail = 0 ∧
      t.dutyMeter = 0 ∧ t.aux = false

/-- Waking (R200, R150): a change honoured by the motion command of an iteration is seen by the DUTY of the same
iteration, which is not idle. -/
def Obligations.HonouredChangeWakesTheSameIteration : Prop :=
  ∀ (i : Instr) (cur : Bool) (light : Sample) (s : State), s.cfg.ok = true → motionClass s.cfg i = some cur →
    s.HonouredAt cur →
    ∃ t, runOps (iteration i light) s = .next t ∧ t.tc = 0 ∧ t.idle = false ∧ t.pwrEn = true ∧ t.prev = cur

/-- The motion command and the AMB of an iteration commute (R200): their order cannot be observed. -/
def Obligations.MotionAndAmbientCommute : Prop :=
  ∀ (i : Instr) (cur : Bool) (light : Sample) (s a b t u : State), motionClass s.cfg i = some cur →
    exec i s = .next a → exec (.amb light) a = .next t →
    exec (.amb light) s = .next b → exec i b = .next u → t = u

/-- R90: the expansions of the pseudo-operations, for operands in range. -/
def Obligations.PseudoOperationsExpandAsListed : Prop :=
  (∀ m l, m ≤ 1023 → l ≤ 1023 →
    AsmLine.expand (.iter m l) = some [.mota (BitVec.ofNat 10 m), .amb (BitVec.ofNat 10 l), .duty]) ∧
  (∀ b l, b ≤ 1 → l ≤ 1023 →
    AsmLine.expand (.iterd b l) = some [.motd (decide (b = 1)), .amb (BitVec.ofNat 10 l), .duty]) ∧
  (∀ n, AsmLine.expand (.ticks n) = some (List.replicate n .tick)) ∧
  (∀ n m l, m ≤ 1023 → l ≤ 1023 →
    AsmLine.expand (.iters n m l) =
      some (List.replicate n [Instr.mota (BitVec.ofNat 10 m), .amb (BitVec.ofNat 10 l), .duty]).flatten)

/-- The operand ranges of the assembler (R88): exactly the numbers a field can carry are accepted. -/
def Obligations.AssemblerAcceptsExactlyTheOperandRanges : Prop :=
  ∀ n : Nat,
    ((AsmLine.expand (.mota n)).isSome = true ↔ n ≤ 1023) ∧ ((AsmLine.expand (.amb n)).isSome = true ↔ n ≤ 1023) ∧
      ((AsmLine.expand (.seed n)).isSome = true ↔ n ≤ 1023) ∧ ((AsmLine.expand (.motd n)).isSome = true ↔ n ≤ 1)

/-! ### Invariants -/

/-- The invariant of R36 and R167 (2) holds at reset, under every well-formed configuration and whatever the
environment is going to present. -/
def Obligations.InvariantHoldsAtReset : Prop :=
  ∀ (c : Config) (inputs : List PortInput), c.ok = true → State.Inv { State.resetWith c with inputs := inputs }

/-- Every step keeps the invariant, from every state that meets it. -/
def Obligations.EveryStepKeepsTheInvariant : Prop :=
  ∀ s t : State, s.Inv → step s = .next t → t.Inv

/-- R36: the invariant holds in every state reachable from reset under a well-formed configuration, whatever the
environment presents. -/
def Obligations.ReachableStatesMeetTheInvariant : Prop :=
  ∀ s : State, Reachable s → s.Inv
end

