-- ==== Sys2Proof/Laws/Bits.lean ====
section
/-! SUPPORT. The fields of the command word, the row masks and the encoder as arithmetic on the word's value. -/

namespace Sys2Proof

theorem opcField_toNat (w : Word) : (opcField w).toNat = w.toNat / 4096 := by
  have := w.isLt
  simp [opcField, Nat.shiftRight_eq_div_pow]
  omega

theorem rsvField_toNat (w : Word) : (rsvField w).toNat = w.toNat / 1024 % 4 := by
  simp [rsvField, Nat.shiftRight_eq_div_pow]

theorem opdField_toNat (w : Word) : (opdField w).toNat = w.toNat % 1024 := by
  simp [opdField]

/-- A mask that keeps the bits from `k` up clears the `k` low bits. -/
theorem mask_high_toNat (w : Word) (k : Nat) (hk : k ≤ 16) :
    w.toNat &&& (65536 - 2 ^ k) = w.toNat / 2 ^ k * 2 ^ k := by
  have hw := w.isLt
  have key : w.toNat &&& (65536 - 2 ^ k) = w.toNat >>> k <<< k := by
    apply Nat.eq_of_testBit_eq
    intro j
    have hm : (65536 - 2 ^ k).testBit j = (decide (j < 16) && decide (k ≤ j)) := by
      interval_cases k <;>
        (rcases Nat.lt_or_ge j 16 with hj | hj
         · interval_cases j <;> decide
         · have h1 : 65536 ≤ 2 ^ j := Nat.pow_le_pow_right (n := 2) (by decide) hj
           rw [Nat.testBit_lt_two_pow (by omega)]
           simp [hj])
    have hn : 16 ≤ j → w.toNat.testBit j = false := fun hj =>
      Nat.testBit_lt_two_pow (by have := Nat.pow_le_pow_right (n := 2) (by decide) hj; omega)
    rw [Nat.testBit_and, hm, Nat.testBit_shiftLeft, Nat.testBit_shiftRight]
    rcases Nat.lt_or_ge j k with hjk | hjk
    · simp [Nat.not_le.mpr hjk]
    · rw [show k + (j - k) = j by omega]
      rcases Nat.lt_or_ge j 16 with hj | hj
      · simp [hj, hjk]
      · simp [hn hj]
  rw [key, Nat.shiftLeft_eq, Nat.shiftRight_eq_div_pow]

theorem mask_FC00_toNat (w : Word) : (w &&& 0xFC00).toNat = w.toNat / 1024 * 1024 := by
  simpa using mask_high_toNat w 10 (by decide)

theorem mask_FFFE_toNat (w : Word) : (w &&& 0xFFFE).toNat = w.toNat / 2 * 2 := by
  simpa using mask_high_toNat w 1 (by decide)

theorem mask_FFFF (w : Word) : w &&& 0xFFFF = w := by
  apply BitVec.eq_of_toNat_eq
  simpa using mask_high_toNat w 0 (by decide)

/-- The value of a base word with a sample in its low 10 bits. -/
theorem withSample_toNat (base : Word) (raw : Sample) (h : base.toNat < 64512) :
    (base + raw.setWidth 16).toNat = base.toNat + raw.toNat := by
  have := raw.isLt
  simp
  omega

/-- The value of every encoding (R85). -/
theorem encode_toNat (i : Instr) :
    (encode i).toNat =
      match i with
      | .nop => 0x0000
      | .tick => 0x1000
      | .rstcnt => 0x2000
      | .mota raw => 0x3000 + raw.toNat
      | .motd lvl => 0x4000 + lvl.toNat
      | .amb raw => 0x5000 + raw.toNat
      | .seed raw => 0x6000 + raw.toNat
      | .duty => 0x7000 := by
  cases i with
  | nop => rfl
  | tick => rfl
  | rstcnt => rfl
  | mota raw => exact withSample_toNat 0x3000 raw (by decide)
  | motd lvl => cases lvl <;> rfl
  | amb raw => exact withSample_toNat 0x5000 raw (by decide)
  | seed raw => exact withSample_toNat 0x6000 raw (by decide)
  | duty => rfl

end Sys2Proof
end

