-- ==== Sys2Proof/Laws/Config.lean ====
section
/-! SUPPORT. What a well-formed configuration gives: every range of R8 and every cross-field condition of R10, as one
conjunction a proof can take apart; and that every typed operand is well formed. -/

namespace Sys2Proof

/-- The facts of `cfg_ok` (R10), as propositions. -/
structure Config.Facts (c : Config) : Prop where
  tickCeil_pos : 1 ≤ c.tickCeil
  tickCeil_le : c.tickCeil ≤ 134217727
  motionTh_le : c.motionTh ≤ 1023
  settleTh_lt : c.settleTh < c.tickCeil
  idleTh_lt : c.idleTh < c.tickCeil
  emaK_le : c.emaK ≤ 10
  thLo_le : c.thLo ≤ 1023
  thHi_le : c.thHi ≤ 1023
  thLo_le_thHi : c.thLo ≤ c.thHi
  headDark_le : c.headDark ≤ 124
  headBright_le : c.headBright ≤ 124
  tailFlash_le : c.tailFlash ≤ 124
  tailDim_le : c.tailDim ≤ 124
  tailD_le : c.tailD ≤ 1024
  tailP_le : c.tailP ≤ 1024
  tailD_le_tailP : c.tailD ≤ c.tailP
  tail_fits : c.tailP + c.tailD ≤ 1024
  meterDark_le : c.meterDark ≤ 124
  meterBright_le : c.meterBright ≤ 124
  swPeriod_pos : 1 ≤ c.swPeriod
  swPeriod_le : c.swPeriod ≤ 255
  swDuty_le : c.swDuty ≤ c.swPeriod

/-- A configuration that passes the check has all the facts. -/
theorem Config.facts {c : Config} (h : c.ok = true) : c.Facts := by
  simp only [Config.ok, Bool.and_eq_true] at h
  obtain ⟨⟨⟨⟨⟨⟨⟨⟨⟨⟨h1, h2⟩, h3⟩, h4⟩, h5⟩, h6⟩, h7⟩, h8⟩, h9⟩, h10⟩, h11⟩ := h
  replace h1 := of_decide_eq_true h1
  replace h6 := of_decide_eq_true h6
  replace h7 := of_decide_eq_true h7
  replace h8 := of_decide_eq_true h8
  replace h9 := of_decide_eq_true h9
  replace h10 := of_decide_eq_true h10
  replace h11 := of_decide_eq_true h11
  exact ⟨h1.1, h1.2, of_decide_eq_true h2, of_decide_eq_true h3, of_decide_eq_true h4, of_decide_eq_true h5,
    h6.1, h6.2.1, h6.2.2, h7.1, h7.2, h8.1, h8.2, h9.1, h9.2.1, h9.2.2.1, h9.2.2.2, h10.1, h10.2, h11.1,
    h11.2.1, h11.2.2⟩

/-- Every typed operand is well formed (R84). -/
theorem Instr.wellFormed_all (i : Instr) : i.wellFormed = true := by
  have bound (x : Sample) : x.toNat ≤ 1023 := by have := x.isLt; omega
  cases i <;> simp [Instr.wellFormed, sampleMax, bound]

end Sys2Proof
end

