-- ==== Sys2Proof/Laws/State.lean ====
section
/-! SUPPORT. One lemma per field per update of the state, each true by rfl, so that no later proof unfolds a record
update; and what a reset state holds. -/

namespace Sys2Proof.Machine

section Emit

variable (s : State) (e : Event)

@[simp] theorem State.emit_tc : (s.emit e).tc = s.tc := rfl
@[simp] theorem State.emit_ms : (s.emit e).ms = s.ms := rfl
@[simp] theorem State.emit_prev : (s.emit e).prev = s.prev := rfl
@[simp] theorem State.emit_mov : (s.emit e).mov = s.mov := rfl
@[simp] theorem State.emit_mep : (s.emit e).mep = s.mep := rfl
@[simp] theorem State.emit_acc : (s.emit e).acc = s.acc := rfl
@[simp] theorem State.emit_dark : (s.emit e).dark = s.dark := rfl
@[simp] theorem State.emit_spc : (s.emit e).spc = s.spc := rfl
@[simp] theorem State.emit_pwrEn : (s.emit e).pwrEn = s.pwrEn := rfl
@[simp] theorem State.emit_idle : (s.emit e).idle = s.idle := rfl
@[simp] theorem State.emit_dutyHead : (s.emit e).dutyHead = s.dutyHead := rfl
@[simp] theorem State.emit_dutyTail : (s.emit e).dutyTail = s.dutyTail := rfl
@[simp] theorem State.emit_dutyMeter : (s.emit e).dutyMeter = s.dutyMeter := rfl
@[simp] theorem State.emit_aux : (s.emit e).aux = s.aux := rfl
@[simp] theorem State.emit_fault : (s.emit e).fault = s.fault := rfl
@[simp] theorem State.emit_fcause : (s.emit e).fcause = s.fcause := rfl
@[simp] theorem State.emit_cfg : (s.emit e).cfg = s.cfg := rfl
@[simp] theorem State.emit_events : (s.emit e).events = s.events ++ [e] := rfl
@[simp] theorem State.emit_inputs : (s.emit e).inputs = s.inputs := rfl

end Emit

section AdvanceCounters

variable (s : State)

@[simp] theorem State.advanceCounters_tc : s.advanceCounters.tc = BitVec.ofNat 27 (satInc s.tc.toNat s.cfg.tickCeil) := rfl
@[simp] theorem State.advanceCounters_ms : s.advanceCounters.ms = BitVec.ofNat 10 (ringInc s.ms.toNat) := rfl
@[simp] theorem State.advanceCounters_prev : s.advanceCounters.prev = s.prev := rfl
@[simp] theorem State.advanceCounters_mov : s.advanceCounters.mov = s.mov := rfl
@[simp] theorem State.advanceCounters_mep : s.advanceCounters.mep = s.mep := rfl
@[simp] theorem State.advanceCounters_acc : s.advanceCounters.acc = s.acc := rfl
@[simp] theorem State.advanceCounters_dark : s.advanceCounters.dark = s.dark := rfl
@[simp] theorem State.advanceCounters_spc : s.advanceCounters.spc = s.spc := rfl
@[simp] theorem State.advanceCounters_pwrEn : s.advanceCounters.pwrEn = s.pwrEn := rfl
@[simp] theorem State.advanceCounters_idle : s.advanceCounters.idle = s.idle := rfl
@[simp] theorem State.advanceCounters_dutyHead : s.advanceCounters.dutyHead = s.dutyHead := rfl
@[simp] theorem State.advanceCounters_dutyTail : s.advanceCounters.dutyTail = s.dutyTail := rfl
@[simp] theorem State.advanceCounters_dutyMeter : s.advanceCounters.dutyMeter = s.dutyMeter := rfl
@[simp] theorem State.advanceCounters_aux : s.advanceCounters.aux = s.aux := rfl
@[simp] theorem State.advanceCounters_fault : s.advanceCounters.fault = s.fault := rfl
@[simp] theorem State.advanceCounters_fcause : s.advanceCounters.fcause = s.fcause := rfl
@[simp] theorem State.advanceCounters_cfg : s.advanceCounters.cfg = s.cfg := rfl
@[simp] theorem State.advanceCounters_events : s.advanceCounters.events = s.events := rfl
@[simp] theorem State.advanceCounters_inputs : s.advanceCounters.inputs = s.inputs := rfl

end AdvanceCounters

section ZeroTickCount

variable (s : State)

@[simp] theorem State.zeroTickCount_tc : s.zeroTickCount.tc = 0 := rfl
@[simp] theorem State.zeroTickCount_ms : s.zeroTickCount.ms = s.ms := rfl
@[simp] theorem State.zeroTickCount_prev : s.zeroTickCount.prev = s.prev := rfl
@[simp] theorem State.zeroTickCount_mov : s.zeroTickCount.mov = s.mov := rfl
@[simp] theorem State.zeroTickCount_mep : s.zeroTickCount.mep = s.mep := rfl
@[simp] theorem State.zeroTickCount_acc : s.zeroTickCount.acc = s.acc := rfl
@[simp] theorem State.zeroTickCount_dark : s.zeroTickCount.dark = s.dark := rfl
@[simp] theorem State.zeroTickCount_spc : s.zeroTickCount.spc = s.spc := rfl
@[simp] theorem State.zeroTickCount_pwrEn : s.zeroTickCount.pwrEn = s.pwrEn := rfl
@[simp] theorem State.zeroTickCount_idle : s.zeroTickCount.idle = s.idle := rfl
@[simp] theorem State.zeroTickCount_dutyHead : s.zeroTickCount.dutyHead = s.dutyHead := rfl
@[simp] theorem State.zeroTickCount_dutyTail : s.zeroTickCount.dutyTail = s.dutyTail := rfl
@[simp] theorem State.zeroTickCount_dutyMeter : s.zeroTickCount.dutyMeter = s.dutyMeter := rfl
@[simp] theorem State.zeroTickCount_aux : s.zeroTickCount.aux = s.aux := rfl
@[simp] theorem State.zeroTickCount_fault : s.zeroTickCount.fault = s.fault := rfl
@[simp] theorem State.zeroTickCount_fcause : s.zeroTickCount.fcause = s.fcause := rfl
@[simp] theorem State.zeroTickCount_cfg : s.zeroTickCount.cfg = s.cfg := rfl
@[simp] theorem State.zeroTickCount_events : s.zeroTickCount.events = s.events := rfl
@[simp] theorem State.zeroTickCount_inputs : s.zeroTickCount.inputs = s.inputs := rfl

end ZeroTickCount

section NoteMotion

variable (s : State) (cur : Bool)

@[simp] theorem State.noteMotion_tc : (s.noteMotion cur).tc = s.tc := rfl
@[simp] theorem State.noteMotion_ms : (s.noteMotion cur).ms = s.ms := rfl
@[simp] theorem State.noteMotion_prev : (s.noteMotion cur).prev = s.prev := rfl
@[simp] theorem State.noteMotion_mov : (s.noteMotion cur).mov = cur := rfl
@[simp] theorem State.noteMotion_mep : (s.noteMotion cur).mep = s.checkedEpoch := rfl
@[simp] theorem State.noteMotion_acc : (s.noteMotion cur).acc = s.acc := rfl
@[simp] theorem State.noteMotion_dark : (s.noteMotion cur).dark = s.dark := rfl
@[simp] theorem State.noteMotion_spc : (s.noteMotion cur).spc = s.spc := rfl
@[simp] theorem State.noteMotion_pwrEn : (s.noteMotion cur).pwrEn = s.pwrEn := rfl
@[simp] theorem State.noteMotion_idle : (s.noteMotion cur).idle = s.idle := rfl
@[simp] theorem State.noteMotion_dutyHead : (s.noteMotion cur).dutyHead = s.dutyHead := rfl
@[simp] theorem State.noteMotion_dutyTail : (s.noteMotion cur).dutyTail = s.dutyTail := rfl
@[simp] theorem State.noteMotion_dutyMeter : (s.noteMotion cur).dutyMeter = s.dutyMeter := rfl
@[simp] theorem State.noteMotion_aux : (s.noteMotion cur).aux = s.aux := rfl
@[simp] theorem State.noteMotion_fault : (s.noteMotion cur).fault = s.fault := rfl
@[simp] theorem State.noteMotion_fcause : (s.noteMotion cur).fcause = s.fcause := rfl
@[simp] theorem State.noteMotion_cfg : (s.noteMotion cur).cfg = s.cfg := rfl
@[simp] theorem State.noteMotion_events : (s.noteMotion cur).events = s.events := rfl
@[simp] theorem State.noteMotion_inputs : (s.noteMotion cur).inputs = s.inputs := rfl

end NoteMotion

section RememberMotion

variable (s : State) (cur : Bool)

@[simp] theorem State.rememberMotion_tc : (s.rememberMotion cur).tc = s.tc := rfl
@[simp] theorem State.rememberMotion_ms : (s.rememberMotion cur).ms = s.ms := rfl
@[simp] theorem State.rememberMotion_prev : (s.rememberMotion cur).prev = cur := rfl
@[simp] theorem State.rememberMotion_mov : (s.rememberMotion cur).mov = s.mov := rfl
@[simp] theorem State.rememberMotion_mep : (s.rememberMotion cur).mep = s.mep := rfl
@[simp] theorem State.rememberMotion_acc : (s.rememberMotion cur).acc = s.acc := rfl
@[simp] theorem State.rememberMotion_dark : (s.rememberMotion cur).dark = s.dark := rfl
@[simp] theorem State.rememberMotion_spc : (s.rememberMotion cur).spc = s.spc := rfl
@[simp] theorem State.rememberMotion_pwrEn : (s.rememberMotion cur).pwrEn = s.pwrEn := rfl
@[simp] theorem State.rememberMotion_idle : (s.rememberMotion cur).idle = s.idle := rfl
@[simp] theorem State.rememberMotion_dutyHead : (s.rememberMotion cur).dutyHead = s.dutyHead := rfl
@[simp] theorem State.rememberMotion_dutyTail : (s.rememberMotion cur).dutyTail = s.dutyTail := rfl
@[simp] theorem State.rememberMotion_dutyMeter : (s.rememberMotion cur).dutyMeter = s.dutyMeter := rfl
@[simp] theorem State.rememberMotion_aux : (s.rememberMotion cur).aux = s.aux := rfl
@[simp] theorem State.rememberMotion_fault : (s.rememberMotion cur).fault = s.fault := rfl
@[simp] theorem State.rememberMotion_fcause : (s.rememberMotion cur).fcause = s.fcause := rfl
@[simp] theorem State.rememberMotion_cfg : (s.rememberMotion cur).cfg = s.cfg := rfl
@[simp] theorem State.rememberMotion_events : (s.rememberMotion cur).events = s.events := rfl
@[simp] theorem State.rememberMotion_inputs : (s.rememberMotion cur).inputs = s.inputs := rfl

end RememberMotion

section LoadFilter

variable (s : State) (a : Nat)

@[simp] theorem State.loadFilter_tc : (s.loadFilter a).tc = s.tc := rfl
@[simp] theorem State.loadFilter_ms : (s.loadFilter a).ms = s.ms := rfl
@[simp] theorem State.loadFilter_prev : (s.loadFilter a).prev = s.prev := rfl
@[simp] theorem State.loadFilter_mov : (s.loadFilter a).mov = s.mov := rfl
@[simp] theorem State.loadFilter_mep : (s.loadFilter a).mep = s.mep := rfl
@[simp] theorem State.loadFilter_acc : (s.loadFilter a).acc = BitVec.ofNat 10 a := rfl
@[simp] theorem State.loadFilter_dark : (s.loadFilter a).dark = classify s.cfg s.dark a := rfl
@[simp] theorem State.loadFilter_spc : (s.loadFilter a).spc = s.spc := rfl
@[simp] theorem State.loadFilter_pwrEn : (s.loadFilter a).pwrEn = s.pwrEn := rfl
@[simp] theorem State.loadFilter_idle : (s.loadFilter a).idle = s.idle := rfl
@[simp] theorem State.loadFilter_dutyHead : (s.loadFilter a).dutyHead = s.dutyHead := rfl
@[simp] theorem State.loadFilter_dutyTail : (s.loadFilter a).dutyTail = s.dutyTail := rfl
@[simp] theorem State.loadFilter_dutyMeter : (s.loadFilter a).dutyMeter = s.dutyMeter := rfl
@[simp] theorem State.loadFilter_aux : (s.loadFilter a).aux = s.aux := rfl
@[simp] theorem State.loadFilter_fault : (s.loadFilter a).fault = s.fault := rfl
@[simp] theorem State.loadFilter_fcause : (s.loadFilter a).fcause = s.fcause := rfl
@[simp] theorem State.loadFilter_cfg : (s.loadFilter a).cfg = s.cfg := rfl
@[simp] theorem State.loadFilter_events : (s.loadFilter a).events = s.events := rfl
@[simp] theorem State.loadFilter_inputs : (s.loadFilter a).inputs = s.inputs := rfl

end LoadFilter

section LampsOff

variable (s : State)

@[simp] theorem State.lampsOff_tc : s.lampsOff.tc = s.tc := rfl
@[simp] theorem State.lampsOff_ms : s.lampsOff.ms = s.ms := rfl
@[simp] theorem State.lampsOff_prev : s.lampsOff.prev = s.prev := rfl
@[simp] theorem State.lampsOff_mov : s.lampsOff.mov = s.mov := rfl
@[simp] theorem State.lampsOff_mep : s.lampsOff.mep = s.mep := rfl
@[simp] theorem State.lampsOff_acc : s.lampsOff.acc = s.acc := rfl
@[simp] theorem State.lampsOff_dark : s.lampsOff.dark = s.dark := rfl
@[simp] theorem State.lampsOff_spc : s.lampsOff.spc = s.spc := rfl
@[simp] theorem State.lampsOff_pwrEn : s.lampsOff.pwrEn = false := rfl
@[simp] theorem State.lampsOff_idle : s.lampsOff.idle = true := rfl
@[simp] theorem State.lampsOff_dutyHead : s.lampsOff.dutyHead = 0 := rfl
@[simp] theorem State.lampsOff_dutyTail : s.lampsOff.dutyTail = 0 := rfl
@[simp] theorem State.lampsOff_dutyMeter : s.lampsOff.dutyMeter = 0 := rfl
@[simp] theorem State.lampsOff_aux : s.lampsOff.aux = false := rfl
@[simp] theorem State.lampsOff_fault : s.lampsOff.fault = s.fault := rfl
@[simp] theorem State.lampsOff_fcause : s.lampsOff.fcause = s.fcause := rfl
@[simp] theorem State.lampsOff_cfg : s.lampsOff.cfg = s.cfg := rfl
@[simp] theorem State.lampsOff_events : s.lampsOff.events = s.events := rfl
@[simp] theorem State.lampsOff_inputs : s.lampsOff.inputs = s.inputs := rfl

end LampsOff

section LampsOn

variable (s : State)

@[simp] theorem State.lampsOn_tc : s.lampsOn.tc = s.tc := rfl
@[simp] theorem State.lampsOn_ms : s.lampsOn.ms = s.ms := rfl
@[simp] theorem State.lampsOn_prev : s.lampsOn.prev = s.prev := rfl
@[simp] theorem State.lampsOn_mov : s.lampsOn.mov = s.mov := rfl
@[simp] theorem State.lampsOn_mep : s.lampsOn.mep = s.mep := rfl
@[simp] theorem State.lampsOn_acc : s.lampsOn.acc = s.acc := rfl
@[simp] theorem State.lampsOn_dark : s.lampsOn.dark = s.dark := rfl
@[simp] theorem State.lampsOn_spc : s.lampsOn.spc = s.spc := rfl
@[simp] theorem State.lampsOn_pwrEn : s.lampsOn.pwrEn = true := rfl
@[simp] theorem State.lampsOn_idle : s.lampsOn.idle = false := rfl
@[simp] theorem State.lampsOn_dutyHead : s.lampsOn.dutyHead = s.headDuty := rfl
@[simp] theorem State.lampsOn_dutyTail : s.lampsOn.dutyTail = s.tailDuty := rfl
@[simp] theorem State.lampsOn_dutyMeter : s.lampsOn.dutyMeter = s.meterDuty := rfl
@[simp] theorem State.lampsOn_aux : s.lampsOn.aux = s.auxPin := rfl
@[simp] theorem State.lampsOn_fault : s.lampsOn.fault = s.fault := rfl
@[simp] theorem State.lampsOn_fcause : s.lampsOn.fcause = s.fcause := rfl
@[simp] theorem State.lampsOn_cfg : s.lampsOn.cfg = s.cfg := rfl
@[simp] theorem State.lampsOn_events : s.lampsOn.events = s.events := rfl
@[simp] theorem State.lampsOn_inputs : s.lampsOn.inputs = s.inputs := rfl

end LampsOn

section AdvancePwm

variable (s : State)

@[simp] theorem State.advancePwm_tc : s.advancePwm.tc = s.tc := rfl
@[simp] theorem State.advancePwm_ms : s.advancePwm.ms = s.ms := rfl
@[simp] theorem State.advancePwm_prev : s.advancePwm.prev = s.prev := rfl
@[simp] theorem State.advancePwm_mov : s.advancePwm.mov = s.mov := rfl
@[simp] theorem State.advancePwm_mep : s.advancePwm.mep = s.mep := rfl
@[simp] theorem State.advancePwm_acc : s.advancePwm.acc = s.acc := rfl
@[simp] theorem State.advancePwm_dark : s.advancePwm.dark = s.dark := rfl
@[simp] theorem State.advancePwm_spc : s.advancePwm.spc = BitVec.ofNat 8 (perInc s.spc.toNat s.cfg.swPeriod) := rfl
@[simp] theorem State.advancePwm_pwrEn : s.advancePwm.pwrEn = s.pwrEn := rfl
@[simp] theorem State.advancePwm_idle : s.advancePwm.idle = s.idle := rfl
@[simp] theorem State.advancePwm_dutyHead : s.advancePwm.dutyHead = s.dutyHead := rfl
@[simp] theorem State.advancePwm_dutyTail : s.advancePwm.dutyTail = s.dutyTail := rfl
@[simp] theorem State.advancePwm_dutyMeter : s.advancePwm.dutyMeter = s.dutyMeter := rfl
@[simp] theorem State.advancePwm_aux : s.advancePwm.aux = s.aux := rfl
@[simp] theorem State.advancePwm_fault : s.advancePwm.fault = s.fault := rfl
@[simp] theorem State.advancePwm_fcause : s.advancePwm.fcause = s.fcause := rfl
@[simp] theorem State.advancePwm_cfg : s.advancePwm.cfg = s.cfg := rfl
@[simp] theorem State.advancePwm_events : s.advancePwm.events = s.events := rfl
@[simp] theorem State.advancePwm_inputs : s.advancePwm.inputs = s.inputs := rfl

end AdvancePwm

section RaiseFault

variable (s : State) (code : BitVec 2)

@[simp] theorem State.raiseFault_tc : (s.raiseFault code).tc = s.tc := rfl
@[simp] theorem State.raiseFault_ms : (s.raiseFault code).ms = s.ms := rfl
@[simp] theorem State.raiseFault_prev : (s.raiseFault code).prev = s.prev := rfl
@[simp] theorem State.raiseFault_mov : (s.raiseFault code).mov = s.mov := rfl
@[simp] theorem State.raiseFault_mep : (s.raiseFault code).mep = s.mep := rfl
@[simp] theorem State.raiseFault_acc : (s.raiseFault code).acc = s.acc := rfl
@[simp] theorem State.raiseFault_dark : (s.raiseFault code).dark = s.dark := rfl
@[simp] theorem State.raiseFault_spc : (s.raiseFault code).spc = s.spc := rfl
@[simp] theorem State.raiseFault_pwrEn : (s.raiseFault code).pwrEn = s.pwrEn := rfl
@[simp] theorem State.raiseFault_idle : (s.raiseFault code).idle = s.idle := rfl
@[simp] theorem State.raiseFault_dutyHead : (s.raiseFault code).dutyHead = s.dutyHead := rfl
@[simp] theorem State.raiseFault_dutyTail : (s.raiseFault code).dutyTail = s.dutyTail := rfl
@[simp] theorem State.raiseFault_dutyMeter : (s.raiseFault code).dutyMeter = s.dutyMeter := rfl
@[simp] theorem State.raiseFault_aux : (s.raiseFault code).aux = s.aux := rfl
@[simp] theorem State.raiseFault_fault : (s.raiseFault code).fault = true := rfl
@[simp] theorem State.raiseFault_fcause : (s.raiseFault code).fcause = if s.fault then s.fcause else code := rfl
@[simp] theorem State.raiseFault_cfg : (s.raiseFault code).cfg = s.cfg := rfl
@[simp] theorem State.raiseFault_events : (s.raiseFault code).events = s.events := rfl
@[simp] theorem State.raiseFault_inputs : (s.raiseFault code).inputs = s.inputs := rfl

end RaiseFault

section BeginEdge

variable (s : State)

@[simp] theorem State.beginEdge_tc : s.beginEdge.tc = s.tc := rfl
@[simp] theorem State.beginEdge_ms : s.beginEdge.ms = s.ms := rfl
@[simp] theorem State.beginEdge_prev : s.beginEdge.prev = s.prev := rfl
@[simp] theorem State.beginEdge_mov : s.beginEdge.mov = s.mov := rfl
@[simp] theorem State.beginEdge_mep : s.beginEdge.mep = s.mep := rfl
@[simp] theorem State.beginEdge_acc : s.beginEdge.acc = s.acc := rfl
@[simp] theorem State.beginEdge_dark : s.beginEdge.dark = s.dark := rfl
@[simp] theorem State.beginEdge_spc : s.beginEdge.spc = s.spc := rfl
@[simp] theorem State.beginEdge_pwrEn : s.beginEdge.pwrEn = s.pwrEn := rfl
@[simp] theorem State.beginEdge_idle : s.beginEdge.idle = s.idle := rfl
@[simp] theorem State.beginEdge_dutyHead : s.beginEdge.dutyHead = s.dutyHead := rfl
@[simp] theorem State.beginEdge_dutyTail : s.beginEdge.dutyTail = s.dutyTail := rfl
@[simp] theorem State.beginEdge_dutyMeter : s.beginEdge.dutyMeter = s.dutyMeter := rfl
@[simp] theorem State.beginEdge_aux : s.beginEdge.aux = s.aux := rfl
@[simp] theorem State.beginEdge_fault : s.beginEdge.fault = s.fault := rfl
@[simp] theorem State.beginEdge_fcause : s.beginEdge.fcause = s.fcause := rfl
@[simp] theorem State.beginEdge_cfg : s.beginEdge.cfg = s.cfg := rfl
@[simp] theorem State.beginEdge_events : s.beginEdge.events = [] := rfl
@[simp] theorem State.beginEdge_inputs : s.beginEdge.inputs = s.inputs.tail := rfl

end BeginEdge

section Present

variable (s : State) (w : Word)

@[simp] theorem State.present_tc : (s.present w).tc = s.tc := rfl
@[simp] theorem State.present_ms : (s.present w).ms = s.ms := rfl
@[simp] theorem State.present_prev : (s.present w).prev = s.prev := rfl
@[simp] theorem State.present_mov : (s.present w).mov = s.mov := rfl
@[simp] theorem State.present_mep : (s.present w).mep = s.mep := rfl
@[simp] theorem State.present_acc : (s.present w).acc = s.acc := rfl
@[simp] theorem State.present_dark : (s.present w).dark = s.dark := rfl
@[simp] theorem State.present_spc : (s.present w).spc = s.spc := rfl
@[simp] theorem State.present_pwrEn : (s.present w).pwrEn = s.pwrEn := rfl
@[simp] theorem State.present_idle : (s.present w).idle = s.idle := rfl
@[simp] theorem State.present_dutyHead : (s.present w).dutyHead = s.dutyHead := rfl
@[simp] theorem State.present_dutyTail : (s.present w).dutyTail = s.dutyTail := rfl
@[simp] theorem State.present_dutyMeter : (s.present w).dutyMeter = s.dutyMeter := rfl
@[simp] theorem State.present_aux : (s.present w).aux = s.aux := rfl
@[simp] theorem State.present_fault : (s.present w).fault = s.fault := rfl
@[simp] theorem State.present_fcause : (s.present w).fcause = s.fcause := rfl
@[simp] theorem State.present_cfg : (s.present w).cfg = s.cfg := rfl
@[simp] theorem State.present_events : (s.present w).events = s.events := rfl
@[simp] theorem State.present_inputs : (s.present w).inputs = PortInput.command w :: s.inputs := rfl

end Present

section ResetRegisters

variable (s : State)

@[simp] theorem State.resetRegisters_tc : s.resetRegisters.tc = 0 := rfl
@[simp] theorem State.resetRegisters_ms : s.resetRegisters.ms = 0 := rfl
@[simp] theorem State.resetRegisters_prev : s.resetRegisters.prev = false := rfl
@[simp] theorem State.resetRegisters_mov : s.resetRegisters.mov = false := rfl
@[simp] theorem State.resetRegisters_mep : s.resetRegisters.mep = 0 := rfl
@[simp] theorem State.resetRegisters_acc : s.resetRegisters.acc = 0 := rfl
@[simp] theorem State.resetRegisters_dark : s.resetRegisters.dark = true := rfl
@[simp] theorem State.resetRegisters_spc : s.resetRegisters.spc = 0 := rfl
@[simp] theorem State.resetRegisters_pwrEn : s.resetRegisters.pwrEn = false := rfl
@[simp] theorem State.resetRegisters_idle : s.resetRegisters.idle = false := rfl
@[simp] theorem State.resetRegisters_dutyHead : s.resetRegisters.dutyHead = 0 := rfl
@[simp] theorem State.resetRegisters_dutyTail : s.resetRegisters.dutyTail = 0 := rfl
@[simp] theorem State.resetRegisters_dutyMeter : s.resetRegisters.dutyMeter = 0 := rfl
@[simp] theorem State.resetRegisters_aux : s.resetRegisters.aux = false := rfl
@[simp] theorem State.resetRegisters_fault : s.resetRegisters.fault = false := rfl
@[simp] theorem State.resetRegisters_fcause : s.resetRegisters.fcause = 0 := rfl
@[simp] theorem State.resetRegisters_cfg : s.resetRegisters.cfg = s.cfg := rfl
@[simp] theorem State.resetRegisters_events : s.resetRegisters.events = [] := rfl
@[simp] theorem State.resetRegisters_inputs : s.resetRegisters.inputs = s.inputs := rfl

end ResetRegisters

section ResetWith

variable (c : Config)

@[simp] theorem State.resetWith_tc : (State.resetWith c).tc = 0 := rfl
@[simp] theorem State.resetWith_ms : (State.resetWith c).ms = 0 := rfl
@[simp] theorem State.resetWith_prev : (State.resetWith c).prev = false := rfl
@[simp] theorem State.resetWith_mov : (State.resetWith c).mov = false := rfl
@[simp] theorem State.resetWith_mep : (State.resetWith c).mep = 0 := rfl
@[simp] theorem State.resetWith_acc : (State.resetWith c).acc = 0 := rfl
@[simp] theorem State.resetWith_dark : (State.resetWith c).dark = true := rfl
@[simp] theorem State.resetWith_spc : (State.resetWith c).spc = 0 := rfl
@[simp] theorem State.resetWith_pwrEn : (State.resetWith c).pwrEn = false := rfl
@[simp] theorem State.resetWith_idle : (State.resetWith c).idle = false := rfl
@[simp] theorem State.resetWith_dutyHead : (State.resetWith c).dutyHead = 0 := rfl
@[simp] theorem State.resetWith_dutyTail : (State.resetWith c).dutyTail = 0 := rfl
@[simp] theorem State.resetWith_dutyMeter : (State.resetWith c).dutyMeter = 0 := rfl
@[simp] theorem State.resetWith_aux : (State.resetWith c).aux = false := rfl
@[simp] theorem State.resetWith_fault : (State.resetWith c).fault = false := rfl
@[simp] theorem State.resetWith_fcause : (State.resetWith c).fcause = 0 := rfl
@[simp] theorem State.resetWith_cfg : (State.resetWith c).cfg = c := rfl
@[simp] theorem State.resetWith_events : (State.resetWith c).events = [] := rfl
@[simp] theorem State.resetWith_inputs : (State.resetWith c).inputs = [] := rfl

end ResetWith

/-- `do_rstcnt` as one update (R111). -/
theorem State.doRstcnt_eq (s : State) :
    s.doRstcnt = { s with tc := 0, events := s.events ++ [.tmrReload, .tickClr] } := by
  simp [State.doRstcnt, State.emit, State.zeroTickCount]

end Sys2Proof.Machine
end

