-- ==== Sys2Proof/Laws/Ops.lean ====
section
/-! SUPPORT. One lemma per shared operation that says once what it can do: cite it instead of unfolding the
operation. -/

namespace Sys2Proof.Machine

/-- Under a well-formed configuration an operation completes. -/
theorem State.complete_of_ok {s : State} (h : s.cfg.ok = true) (t : State) : s.complete t = .next t := by
  simp [State.complete, h]

/-- Under any other configuration it is refused. -/
theorem State.complete_of_not_ok {s : State} (h : s.cfg.ok = false) (t : State) :
    s.complete t = .refused .illFormedConfig := by
  simp [State.complete, h]

/-- All that completing can do. -/
theorem State.complete_next {s t u : State} (h : s.complete t = .next u) : s.cfg.ok = true ∧ u = t := by
  unfold State.complete at h
  split at h
  · cases h; exact ⟨‹_›, rfl⟩
  · cases h

/-- The saturating increment, as its two cases (R116). -/
theorem satInc_cases (x ceil : Nat) : (x < ceil ∧ satInc x ceil = x + 1) ∨ (ceil ≤ x ∧ satInc x ceil = x) := by
  unfold satInc
  split
  · exact .inl ⟨‹_›, rfl⟩
  · exact .inr ⟨by omega, rfl⟩

/-- The period increment, as its two cases. -/
theorem perInc_cases (x p : Nat) : (p ≤ x + 1 ∧ perInc x p = 0) ∨ (x + 1 < p ∧ perInc x p = x + 1) := by
  unfold perInc
  split
  · exact .inl ⟨‹_›, rfl⟩
  · exact .inr ⟨by omega, rfl⟩

/-- The ring increment stays in the ring. -/
theorem ringInc_lt (x : Nat) : ringInc x < 1024 := Nat.mod_lt _ (by decide)

/-- The moving average with its shifts as divisions (R13). -/
theorem emaNext_eq (k acc s : Nat) : emaNext k acc s = acc - acc / 2 ^ k + s / 2 ^ k := by
  simp [emaNext, Nat.shiftRight_eq_div_pow]

/-- The window number is the quotient of MS by 128 (R144). -/
theorem State.window_toNat (s : State) : s.window.toNat = s.ms.toNat / 128 := by
  have := s.ms.isLt
  simp [State.window, Nat.shiftRight_eq_div_pow]
  omega

/-- The two values of the gate. -/
theorem State.gateOpen_cases (s : State) :
    (s.cfg.motionPolicy = .everyIter ∧ s.gateOpen = true) ∨
      (s.cfg.motionPolicy = .rate128 ∧ s.gateOpen = (s.window != s.mep)) := by
  unfold State.gateOpen
  cases h : s.cfg.motionPolicy
  · exact .inl ⟨rfl, rfl⟩
  · exact .inr ⟨rfl, rfl⟩

/-- All that a motion step can do: nothing with the gate shut; a note of the reading; or a note and an honoured
change. -/
theorem State.motionStep_cases (s : State) (cur : Bool) :
    (s.gateOpen = false ∧ s.motionStep cur = s) ∨
      (s.gateOpen = true ∧ s.honours cur = false ∧
        s.motionStep cur = { s with mep := s.checkedEpoch, mov := cur }) ∨
      (s.gateOpen = true ∧ s.honours cur = true ∧
        s.motionStep cur =
          { s with
            mep := s.checkedEpoch, mov := cur, tc := 0, prev := cur
            events := s.events ++ [.tmrReload, .tickClr] }) := by
  unfold State.motionStep
  cases hg : s.gateOpen
  · exact .inl ⟨rfl, rfl⟩
  · cases hh : s.honours cur
    · exact .inr (.inl ⟨rfl, rfl, rfl⟩)
    · exact .inr (.inr ⟨rfl, rfl, by simp [State.doRstcnt_eq, State.noteMotion, State.rememberMotion]⟩)

/-- The latch, as the four rows of the table of R205. -/
theorem classify_cases (c : Config) (dark : Bool) (a : Nat) :
    (dark = true ∧ c.thHi < a ∧ classify c dark a = false) ∨
      (dark = true ∧ a ≤ c.thHi ∧ classify c dark a = true) ∨
      (dark = false ∧ a ≤ c.thLo ∧ classify c dark a = true) ∨
      (dark = false ∧ c.thLo < a ∧ classify c dark a = false) := by
  cases dark
  · rcases Nat.lt_or_ge c.thLo a with h | h
    · exact .inr (.inr (.inr ⟨rfl, h, by simp [classify, Nat.not_le.mpr h]⟩))
    · exact .inr (.inr (.inl ⟨rfl, h, by simp [classify, h]⟩))
  · rcases Nat.lt_or_ge c.thHi a with h | h
    · exact .inl ⟨rfl, h, by simp [classify, h]⟩
    · exact .inr (.inl ⟨rfl, h, by simp [classify, Nat.not_lt.mpr h]⟩)

/-- The window comparison of the gate, as a comparison of numbers (R144). -/
theorem State.window_eq_mep (s : State) : s.window = s.mep ↔ s.ms.toNat / 128 = s.mep.toNat := by
  rw [← s.window_toNat]
  exact BitVec.toNat_inj.symm

/-- The gate of the definition and the gate of the claims agree (R144). -/
theorem State.gateOpen_eq_false (s : State) : s.gateOpen = false ↔ s.GateShut := by
  unfold State.GateShut
  rcases s.gateOpen_cases with ⟨h1, h2⟩ | ⟨h1, h2⟩
  · simp [h1, h2]
  · simp [h1, h2, ← s.window_eq_mep]

/-- The honoured-change test of the definition and that of the claims agree (R142). -/
theorem State.honours_iff (s : State) (cur : Bool) : s.honours cur = true ↔ s.HonouredAt cur := by
  have hg : s.gateOpen = true ↔ ¬ s.GateShut := by rw [← s.gateOpen_eq_false]; simp
  simp only [State.honours, State.settled, Bool.and_eq_true, decide_eq_true_eq, bne_iff_ne, hg, and_assoc]

end Sys2Proof.Machine
end

