-- ==== Sys2Proof/Laws/Exec.lean ====
section
/-! SUPPORT. What `exec` and `step` can do, said once: each arm as the completion of one state, the fields no operation
writes, and the cases of a clock edge. -/

namespace Sys2Proof.Machine

section Arms

variable (s : State) (raw : Sample) (lvl : Bool)

theorem exec_nop : exec .nop s = s.complete s := rfl
theorem exec_tick : exec .tick s = s.complete ((s.advanceCounters.emit .tmrReload).emit .tickClr) := rfl
theorem exec_rstcnt : exec .rstcnt s = s.complete s.doRstcnt := rfl
theorem exec_mota : exec (.mota raw) s = s.complete (s.motionStep (decide (s.cfg.motionTh < raw.toNat))) := rfl
theorem exec_motd : exec (.motd lvl) s = s.complete (s.motionStep lvl) := rfl
theorem exec_amb :
    exec (.amb raw) s =
      s.complete (if s.sampling then s.loadFilter (emaNext s.cfg.emaK s.acc.toNat raw.toNat) else s) := rfl
theorem exec_seed : exec (.seed raw) s = s.complete (s.loadFilter raw.toNat) := rfl
theorem exec_duty : exec .duty s = s.complete (if s.isIdle then s.lampsOff else s.lampsOn).advancePwm := rfl

end Arms

/-- A motion command is the motion step of its classification. -/
theorem exec_motion {i : Instr} {s : State} {cur : Bool} (h : motionClass s.cfg i = some cur) :
    exec i s = s.complete (s.motionStep cur) := by
  cases i <;> simp only [motionClass, Option.some.injEq, reduceCtorEq] at h <;> subst h <;> rfl

/-- No motion step writes anything but TC, PREV, MOV, MEP and the events. -/
theorem State.motionStep_frame (s : State) (cur : Bool) :
    (s.motionStep cur).cfg = s.cfg ∧ (s.motionStep cur).inputs = s.inputs ∧ (s.motionStep cur).fault = s.fault ∧
      (s.motionStep cur).fcause = s.fcause ∧ (s.motionStep cur).ms = s.ms := by
  rcases s.motionStep_cases cur with ⟨-, h⟩ | ⟨-, -, h⟩ | ⟨-, -, h⟩ <;> simp [h]

/-- What no operation writes: the configuration, the inputs to come, FAULT and FCAUSE. Every operation is the
completion of some state that keeps them. -/
theorem exec_completes (i : Instr) (s : State) :
    ∃ t, exec i s = s.complete t ∧ t.cfg = s.cfg ∧ t.inputs = s.inputs ∧ t.fault = s.fault ∧
      t.fcause = s.fcause := by
  cases i with
  | nop => exact ⟨_, exec_nop s, rfl, rfl, rfl, rfl⟩
  | tick => exact ⟨_, exec_tick s, rfl, rfl, rfl, rfl⟩
  | rstcnt => exact ⟨_, exec_rstcnt s, rfl, rfl, rfl, rfl⟩
  | mota raw =>
    have h := s.motionStep_frame (decide (s.cfg.motionTh < raw.toNat))
    exact ⟨_, exec_mota s raw, h.1, h.2.1, h.2.2.1, h.2.2.2.1⟩
  | motd lvl =>
    have h := s.motionStep_frame lvl
    exact ⟨_, exec_motd s lvl, h.1, h.2.1, h.2.2.1, h.2.2.2.1⟩
  | amb raw => exact ⟨_, exec_amb s raw, by split <;> simp, by split <;> simp, by split <;> simp, by split <;> simp⟩
  | seed raw => exact ⟨_, exec_seed s raw, rfl, rfl, rfl, rfl⟩
  | duty => exact ⟨_, exec_duty s, by split <;> rfl, by split <;> rfl, by split <;> rfl, by split <;> rfl⟩

/-- What a completed operation says of its configuration and of the fields no operation writes. -/
theorem exec_next {i : Instr} {s t : State} (h : exec i s = .next t) :
    s.cfg.ok = true ∧ t.cfg = s.cfg ∧ t.inputs = s.inputs ∧ t.fault = s.fault ∧ t.fcause = s.fcause := by
  obtain ⟨u, hu, kept⟩ := exec_completes i s
  rw [hu] at h
  obtain ⟨ok, rfl⟩ := State.complete_next h
  exact ⟨ok, kept⟩

/-- The step, by what the ports carry at the edge. -/
theorem step_eq (s : State) : step s = s.beginEdge.edgeWith s.portInput := rfl

/-- The input of a state with something listed. -/
theorem State.portInput_cons {s : State} {p : PortInput} {rest : List PortInput} (h : s.inputs = p :: rest) :
    s.portInput = p := by
  simp [State.portInput, h]

/-- The start of an edge whose input is listed. -/
theorem State.beginEdge_cons {s : State} {p : PortInput} {rest : List PortInput} (h : s.inputs = p :: rest) :
    s.beginEdge = { s with events := [], inputs := rest } := by
  simp [State.beginEdge, h]

/-- Presenting a word and beginning the edge leaves the state as it was, but for the event pulses. -/
@[simp] theorem State.beginEdge_present (s : State) (w : Word) : (s.present w).beginEdge = { s with events := [] } := rfl

/-- A step that presents a word accepts it. -/
theorem step_present (s : State) (w : Word) : step (s.present w) = State.accept { s with events := [] } w := rfl

/-- A run of one word more. -/
theorem runWords_cons {w : Word} {ws : List Word} {s u : State} (h : step (s.present w) = .next u) :
    runWords (w :: ws) s = runWords ws u := by
  simp [runWords, h]

/-- A completed run of one word more went through the state after its first word. -/
theorem runWords_cons_next {w : Word} {ws : List Word} {s t : State} (h : runWords (w :: ws) s = .next t) :
    ∃ u, step (s.present w) = .next u ∧ runWords ws u = .next t := by
  simp only [runWords] at h
  split at h
  · exact ⟨_, ‹_›, h⟩
  · cases h
  · cases h

/-- The first command of a run, and the run after it. -/
theorem visits_cons {i : Instr} {is : List Instr} {s u : State} (h : step (s.present (encode i)) = .next u) :
    visits (i :: is) s = ⟨s, i, u⟩ :: visits is u := by
  simp [visits, h]

/-- A run that keeps the count does so at its first command, and after it. -/
theorem KeepsCount_cons {i : Instr} {is : List Instr} {s u : State} (h : step (s.present (encode i)) = .next u) :
    KeepsCount (i :: is) s ↔ ¬ s.ResetsCount i ∧ KeepsCount is u := by
  simp only [KeepsCount, visits_cons h, List.forall_mem_cons]

/-- The AUX count of a run of one command more. -/
theorem auxCount_cons {i : Instr} {is : List Instr} {s u : State} (h : step (s.present (encode i)) = .next u) :
    auxCount (i :: is) s = (if i = .duty ∧ u.aux = true then 1 else 0) + auxCount is u := by
  have e : u.outputs.aux = u.aux := rfl
  simp only [auxCount, visits_cons h, List.filter_cons, e, Bool.and_eq_true, decide_eq_true_eq]
  split <;> simp [Nat.add_comm]

/-- Runs compose. -/
theorem runWords_append (us ws : List Word) {s t u : State} (h : runWords us s = .next t)
    (h' : runWords ws t = .next u) : runWords (us ++ ws) s = .next u := by
  induction us generalizing s with
  | nil => cases h; exact h'
  | cons w us ih =>
    obtain ⟨v, hv, rest⟩ := runWords_cons_next h
    rw [List.cons_append, runWords_cons hv]
    exact ih rest

end Sys2Proof.Machine
end

