-- ==== Sys2Proof/Laws/PerInstr.lean ====
section
/-! SUPPORT. The family EncodingInRow: the word of an operation selects the operation's own row of the opcode map
(R82), with every operand. One lemma per constructor. -/

namespace Sys2Proof.Laws.EncodingInRow

/-- The encoding of `i` ANDed with the mask of its row is the row's match. -/
def Statement (i : Instr) : Prop := encode i &&& i.row.mask = i.row.matchBits

/-- A 10-bit operand in a word whose low 10 bits are 0 leaves the high 6 bits alone. -/
theorem sample_masked (base : Word) (raw : Sample) (h : base.toNat < 64512) (h0 : base.toNat % 1024 = 0) :
    (base + raw.setWidth 16) &&& 0xFC00 = base := by
  apply BitVec.eq_of_toNat_eq
  rw [mask_FC00_toNat, withSample_toNat base raw h]
  have := raw.isLt
  omega

theorem nop : Statement .nop := rfl
theorem tick : Statement .tick := rfl
theorem rstcnt : Statement .rstcnt := rfl
theorem mota (raw : Sample) : Statement (.mota raw) := sample_masked 0x3000 raw (by decide) (by decide)
theorem motd (lvl : Bool) : Statement (.motd lvl) := by cases lvl <;> rfl
theorem amb (raw : Sample) : Statement (.amb raw) := sample_masked 0x5000 raw (by decide) (by decide)
theorem seed (raw : Sample) : Statement (.seed raw) := sample_masked 0x6000 raw (by decide) (by decide)
theorem duty : Statement .duty := rfl

end Sys2Proof.Laws.EncodingInRow
end

