-- ==== Sys2Proof/Tests/Slice0.lean ====
section
/-! SUPPORT. The model's own tests. Expected results are the vectors of spec/95_test_vectors.md, named V-… in the
docstrings. `smoke_…` are the checks of WellFormed, each on a term it refuses; `witness_…` meet the hypotheses of the
obligation they name, one for each clause at a boundary. -/

namespace Sys2Proof.Machine.Tests

open Sys2Proof Sys2Proof.Machine

/-! ### Helpers -/

/-- REF of the vectors. -/
abbrev ref : Config := Config.reference

/-- REF-RATE128. -/
abbrev rate128 : Config := { ref with motionPolicy := .rate128 }

/-- REF-HW. -/
abbrev hw : Config := { ref with meterMode := .hw }

/-- A configuration in which one tick is past both thresholds. -/
abbrev quick : Config := { ref with settleTh := 0, idleTh := 0 }

/-- A software PWM of period 2. -/
abbrev pair : Config := { ref with swPeriod := 2 }

/-- A configuration that `cfg_ok` refuses. -/
abbrev bad : Config := { ref with thLo := 601 }

/-- The reset state under REF. -/
abbrev s0 : State := State.reset

/-- The two events of an honoured change, of TICK and of RSTCNT. -/
abbrev both : List Event := [.tmrReload, .tickClr]

/-- The next state, if there is one. -/
def after : Host.Outcome State Fault Refusal → Option State
  | .next t => some t
  | .fault _ => none
  | .refused _ => none

/-! ### WellFormed: one refused term for each check -/

theorem smoke_reference : ref.ok = true ∧ rate128.ok = true ∧ hw.ok = true ∧ ref.singleThreshold.ok = true := by decide
theorem smoke_tickCeil : Config.ok { ref with tickCeil := 134217728 } = false := by decide
theorem smoke_tickCeil_zero : Config.tickCeilOk { ref with tickCeil := 0 } = false := by decide
theorem smoke_motionTh : Config.ok { ref with motionTh := 1024 } = false := by decide
theorem smoke_settleTh : Config.ok { ref with settleTh := 88473600 } = false := by decide
theorem smoke_idleTh : Config.ok { ref with idleTh := 88473600 } = false := by decide
theorem smoke_emaK : Config.ok { ref with emaK := 11 } = false := by decide
theorem smoke_thresholds : bad.ok = false ∧ Config.ok { ref with thHi := 1024 } = false := by decide
theorem smoke_head : Config.ok { ref with headDark := 125 } = false := by decide
theorem smoke_tailDuty : Config.ok { ref with tailDim := 125 } = false := by decide
theorem smoke_tailWindows :
    Config.ok { ref with tailD := 101 } = false ∧ Config.ok { ref with tailP := 965 } = false := by decide
theorem smoke_meter : Config.ok { ref with meterBright := 125 } = false := by decide
theorem smoke_swPwm :
    Config.ok { ref with swDuty := 9 } = false ∧ Config.ok { ref with swPeriod := 0, swDuty := 0 } = false ∧
      Config.ok { ref with swPeriod := 256 } = false := by decide

/-! ### Decoding: the words of V-E1 to V-E27 -/

/-- V-E1 to V-E3 and V-E15. -/
theorem test_decode_plain :
    decode 0x0000 = .op .nop ∧ decode 0x1000 = .op .tick ∧ decode 0x2000 = .op .rstcnt ∧ decode 0x7000 = .op .duty := by
  decide

/-- V-E4 to V-E7. -/
theorem test_decode_mota :
    decode 0x3000 = .op (.mota 0) ∧ decode 0x3032 = .op (.mota 50) ∧ decode 0x3033 = .op (.mota 51) ∧
      decode 0x33FF = .op (.mota 1023) := by decide

/-- V-E8, V-E9. -/
theorem test_decode_motd : decode 0x4000 = .op (.motd false) ∧ decode 0x4001 = .op (.motd true) := by decide

/-- V-E10 to V-E12. -/
theorem test_decode_amb :
    decode 0x5000 = .op (.amb 0) ∧ decode 0x51F4 = .op (.amb 500) ∧ decode 0x53FF = .op (.amb 1023) := by decide

/-- V-E13, V-E14. -/
theorem test_decode_seed : decode 0x6200 = .op (.seed 512) ∧ decode 0x62BC = .op (.seed 700) := by decide

/-- V-E16 to V-E18. -/
theorem test_decode_reserved_code :
    decode 0x8000 = .illegal .opcode ∧ decode 0xFFFF = .illegal .opcode ∧ decode 0x9400 = .illegal .opcode := by decide

/-- V-E19 to V-E21. -/
theorem test_decode_reserved_bits :
    decode 0x0400 = .illegal .reserved ∧ decode 0x3400 = .illegal .reserved ∧ decode 0x5800 = .illegal .reserved := by
  decide

/-- V-E22 to V-E27. -/
theorem test_decode_operand_bits :
    decode 0x1001 = .illegal .reserved ∧ decode 0x0001 = .illegal .reserved ∧ decode 0x23FF = .illegal .reserved ∧
      decode 0x7008 = .illegal .reserved ∧ decode 0x4002 = .illegal .reserved ∧ decode 0x4003 = .illegal .reserved := by
  decide

/-- The worked examples of R85. -/
theorem test_encode :
    encode (.mota 51) = 0x3033 ∧ encode (.amb 1023) = 0x53FF ∧ encode (.motd true) = 0x4001 ∧
      encode (.seed 512) = 0x6200 := by decide

/-- A table word by its number; a word longer than the one format is no instruction (log entry 5). -/
theorem test_table_word :
    decodeTableWord 16 0x3033 = some (.mota 51) ∧ decodeTableWord 16 0x8000 = none ∧
      decodeTableWord 32 0x1000 = none := by decide

/-- A presented word is the command of the next edge. -/
theorem test_fetch_word : after (step (s0.withFetchWord 16 0x62BC)) = some { s0 with acc := 700, dark := false } := by
  decide

/-! ### One step of each operation -/

/-- V-T12. -/
theorem test_nop : after (exec .nop { s0 with tc := 7, fault := true }) = some { s0 with tc := 7, fault := true } := by
  decide

/-- V-T2. -/
theorem test_tick_wraps_ms :
    after (exec .tick { s0 with tc := 149, ms := 1023 }) = some { s0 with tc := 150, ms := 0, events := both } := by
  decide

/-- V-T3, the second tick: TC is saturated, MS still runs. -/
theorem test_tick_saturates :
    after (exec .tick { s0 with tc := 88473600, ms := 0 }) = some { s0 with tc := 88473600, ms := 1, events := both } := by
  decide

/-- V-T10. -/
theorem test_rstcnt :
    after (exec .rstcnt { s0 with tc := 150, ms := 40, mov := true }) =
      some { s0 with ms := 40, mov := true, events := both } := by decide

/-- V-T9: the events are emitted although TC is 0 already. -/
theorem test_rstcnt_at_zero : after (exec .rstcnt { s0 with ms := 40 }) = some { s0 with ms := 40, events := both } := by
  decide

/-- V-M3 and V-M4: at the settle threshold, and past it. -/
theorem test_mota_settle :
    after (exec (.mota 51) { s0 with tc := 102 }) = some { s0 with tc := 102, mov := true } ∧
      after (exec (.mota 51) { s0 with tc := 103 }) = some { s0 with mov := true, prev := true, events := both } := by
  decide

/-- V-M23 and V-M24: the gate of RATE128 at the edge of a window. -/
theorem test_mota_gate :
    after (exec (.mota 0) { s0 with cfg := rate128, tc := 127, ms := 255, mep := 1, prev := true, mov := true }) =
        some { s0 with cfg := rate128, tc := 127, ms := 255, mep := 1, prev := true, mov := true } ∧
      after (exec (.mota 0) { s0 with cfg := rate128, tc := 128, ms := 256, mep := 1, prev := true, mov := true }) =
        some { s0 with cfg := rate128, ms := 256, mep := 2, events := both } := by
  decide

/-- V-M10. -/
theorem test_motd_honoured :
    after (exec (.motd false) { s0 with tc := 103, prev := true, mov := true }) = some { s0 with events := both } := by
  decide

/-- V-M11. -/
theorem test_motd_settling :
    after (exec (.motd false) { s0 with tc := 102, prev := true, mov := true }) =
      some { s0 with tc := 102, prev := true } := by decide

/-- V-A20 and V-A21: past the high threshold, and at it. -/
theorem test_amb_bright :
    after (exec (.amb 1023) { s0 with acc := 562 }) = some { s0 with acc := 619, dark := false } ∧
      after (exec (.amb 1023) { s0 with acc := 540 }) = some { s0 with acc := 600 } := by decide

/-- V-A24 and V-A26: at the low threshold, and with the gate shut. -/
theorem test_amb_dark :
    after (exec (.amb 0) { s0 with acc := 457, dark := false }) = some { s0 with acc := 400 } ∧
      after (exec (.amb 1023) { s0 with spc := 1, acc := 385 }) = some { s0 with spc := 1, acc := 385 } := by decide

/-- V-A29 and V-A30. -/
theorem test_seed_high :
    after (exec (.seed 600) s0) = some { s0 with acc := 600 } ∧
      after (exec (.seed 601) s0) = some { s0 with acc := 601, dark := false } := by decide

/-- V-A31 and V-A32: at the low threshold whatever the gate, and above it. -/
theorem test_seed_low :
    after (exec (.seed 400) { s0 with acc := 700, dark := false, spc := 5 }) = some { s0 with acc := 400, spc := 5 } ∧
      after (exec (.seed 401) { s0 with acc := 700, dark := false }) = some { s0 with acc := 401, dark := false } := by
  decide

/-- V-D20 and V-D14: at the idle threshold, not idle, with either meter. -/
theorem test_duty_on :
    after (exec .duty { s0 with tc := 184320 }) =
        some { s0 with tc := 184320, pwrEn := true, dutyHead := 124, dutyTail := 124, aux := true, spc := 1 } ∧
      after (exec .duty { s0 with cfg := hw }) =
        some { s0 with cfg := hw, pwrEn := true, dutyHead := 124, dutyTail := 124, dutyMeter := 60, spc := 1 } := by
  decide

/-- V-D21 from outputs that were on, and V-D13: idle, and the wrap of SPC. -/
theorem test_duty_off :
    after (exec .duty { s0 with tc := 184321, ms := 1, spc := 1, pwrEn := true, dutyHead := 124, aux := true }) =
        some { s0 with tc := 184321, ms := 1, spc := 2, idle := true } ∧
      after (exec .duty { s0 with tc := 5, ms := 70, spc := 7 }) =
        some { s0 with tc := 5, ms := 70, spc := 0, pwrEn := true, dutyHead := 124, dutyTail := 20 } := by decide

/-- V-D1 to V-D8, the boundaries of the flash windows. -/
theorem test_flash_windows :
    [0, 59, 60, 99, 100, 159, 160, 1023].map (inFlash ref) = [true, true, false, false, true, true, false, false] := by
  decide

/-- V-A7, V-A9b, V-A9h and the frozen filter. -/
theorem test_ema :
    emaNext 3 562 1023 = 619 ∧ emaNext 3 7 0 = 7 ∧ emaNext 3 1016 1023 = 1016 ∧ emaNext 10 600 200 = 600 := by decide

/-- V-F1 and V-F3. -/
theorem test_illegal_word :
    after (step (s0.present 0x8000)) = some { s0 with fault := true, fcause := 1 } ∧
      after (step (State.present { s0 with fault := true, fcause := 2 } 0x8000)) =
        some { s0 with fault := true, fcause := 2 } := by decide

/-- V-R2 and V-R3: reset wins over a command on the same edge. -/
theorem test_reset_edge :
    after (step { s0 with tc := 500, ms := 77, acc := 900, dark := false, spc := 5, pwrEn := true, fault := true, fcause := 2,
                          inputs := [⟨true, true, 0x1000⟩] }) = some s0 := by decide

/-- P2 of the vectors from TC = 150: the change, the duties of the same iteration, the next tick. -/
theorem test_program_wake :
    after (runOps [.mota 51, .duty, .tick] { s0 with tc := 150, ms := 150 }) =
      some { s0 with tc := 1, ms := 151, prev := true, mov := true, spc := 1, pwrEn := true, dutyHead := 124,
                     dutyTail := 124, aux := true, events := both } := by decide

/-- V-D17, the first two rows: what the port AUX carries after each DUTY. -/
theorem test_trace : (traceWords [0x7000, 0x7000] s0).map (fun o => (o.aux, o.spc)) = [(true, 1), (false, 2)] := by decide

/-! ### The assembler (R88, R90) -/

theorem test_assembler_lines :
    assembleLine ['M', 'O', 'T', 'A', ' ', '#', '5', '1', ' ', ';', ' ', 'x'] = some [.mota 51] ∧
      assembleLine ['A', 'M', 'B', ' ', '#', '0', 'x', '3', 'F', 'F'] = some [.amb 1023] ∧
      assembleLine ['T', 'I', 'C', 'K', 'S', ' ', '2'] = some [.tick, .tick] ∧
      assembleLine ['I', 'T', 'E', 'R', ' ', '#', '0', ',', ' ', '#', '7'] = some [.mota 0, .amb 7, .duty] := by decide

theorem smoke_assembler_lines :
    assembleLine ['M', 'O', 'T', 'D', ' ', '#', '2'] = none ∧
      assembleLine ['S', 'E', 'E', 'D', ' ', '#', '1', '0', '2', '4'] = none ∧
      assembleLine ['D', 'U', 'T', 'Y', ' ', '#', '0'] = none ∧
      assembleLine ['A', 'M', 'B'] = none := by decide

/-! ### Witnesses: reset, the edge, the fault -/

theorem witness_ResetHoldsTheStatedValues :
    State.reset = State.resetWith ref ∧ State.resetWith hw ≠ State.reset := by decide

theorem witness_ResetEdgeWinsOverTheCommand :
    State.cfg s0 = ref ∧ ref.ok = true ∧ State.inputs { s0 with tc := 9, inputs := [⟨true, true, 0x1000⟩] } =
      ⟨true, true, 0x1000⟩ :: [] := by decide

/-- The four clauses of the edge: a command, no command, a reset, nothing listed. -/
theorem witness_ClockEdgeFollowsThePorts :
    ref.ok = true ∧ State.inputs (s0.present 0x1000) = PortInput.command 0x1000 :: [] ∧
      (PortInput.command 0x1000).rst = false ∧ (PortInput.command 0x1000).cmdValid = true ∧
      PortInput.quiet.rst = false ∧ PortInput.quiet.cmdValid = false ∧ PortInput.reset.rst = true ∧ s0.inputs = [] := by
  decide

theorem witness_StepRunsTheDecodedCommand :
    State.inputs (s0.present 0x3033) = PortInput.command 0x3033 :: [] ∧ decode 0x3033 = .op (.mota 51) ∧
      decodeTableWord 16 0x3033 = some (.mota 51) := by decide

theorem witness_EveryOperationAndEdgeCompletes : State.cfg s0 = ref ∧ ref.ok = true := by decide

theorem witness_IllFormedConfigurationIsRefused : (State.resetWith bad).cfg.ok = false := by decide

theorem witness_StepKeepsTheConfiguration :
    step (s0.present 0x1000) = .next { s0 with tc := 1, ms := 1, events := both } := rfl

/-- An edge that pulses for each of the three reasons, and two that do not, one of them with nothing presented. -/
theorem witness_PortsShowTheRegistersAndTheEvents :
    step (s0.present 0x1000) = .next { s0 with tc := 1, ms := 1, events := both } ∧
      step (s0.present 0x2000) = .next { s0 with events := both } ∧
      step (State.present { s0 with tc := 103 } 0x4001) =
        .next { s0 with prev := true, mov := true, events := both } ∧
      step (s0.present 0x4001) = .next { s0 with mov := true } ∧
      step { s0 with events := both } = .next s0 := ⟨rfl, rfl, rfl, rfl, rfl⟩

/-- The clauses of the decoder at their boundary words: codes 8 and 7, RSV 1, OPD 1, OPD[9:1] 1, and legal words. -/
theorem witness_DecoderFollowsTheChecksInOrder :
    8 ≤ (0x8000 : Word).toNat / 4096 ∧
      ((0x7400 : Word).toNat / 4096 < 8 ∧ (0x7400 : Word).toNat / 1024 % 4 ≠ 0) ∧
      ((0x7001 : Word).toNat / 4096 = 7 ∧ (0x7001 : Word).toNat / 1024 % 4 = 0 ∧ (0x7001 : Word).toNat % 1024 ≠ 0) ∧
      ((0x4002 : Word).toNat / 4096 = 4 ∧ (0x4002 : Word).toNat % 1024 / 2 ≠ 0) ∧
      ((0x7000 : Word).toNat / 4096 = 7 ∧ (0x7000 : Word).toNat % 1024 = 0) ∧
      ((0x4001 : Word).toNat / 4096 = 4 ∧ (0x4001 : Word).toNat % 1024 / 2 = 0) ∧
      ((0x63FF : Word).toNat / 4096 = 6 ∧ (0x63FF : Word).toNat / 1024 % 4 = 0) := by decide

theorem witness_EncodeUndoesDecode : decode 0x33FF = .op (.mota 1023) ∧ decode 0x4001 = .op (.motd true) := by decide

theorem witness_TableRowsSelectTheLegalWords :
    decode 0x33FF = .op (.mota 1023) ∧ (Instr.mota 1023).row ∈ opcodeMap ∧
      (Instr.mota 1023).row.selects 0x33FF = true := by decide

/-- Both causes at the words that meet, with FAULT at 0 and at 1, and each reason for cause 2 by itself. -/
theorem witness_IllegalWordOnlyRecordsTheFault :
    ref.ok = true ∧ State.inputs (s0.present 0x8000) = PortInput.command 0x8000 :: [] ∧
      8 ≤ (0x8000 : Word).toNat / 4096 ∧
      State.inputs (State.present { s0 with fault := true, fcause := 1 } 0x7FFF) = PortInput.command 0x7FFF :: [] ∧
      (0x7FFF : Word).toNat / 4096 < 8 ∧ (0x7FFF : Word).toNat / 1024 % 4 ≠ 0 ∧
      ((0x1001 : Word).toNat / 4096 = 1 ∧ (0x1001 : Word).toNat % 1024 ≠ 0) ∧
      ((0x4002 : Word).toNat / 4096 = 4 ∧ (0x4002 : Word).toNat % 1024 / 2 ≠ 0) ∧
      after (step (State.present { s0 with fault := true, fcause := 1 } 0x7FFF)) =
        some { s0 with fault := true, fcause := 1 } := by decide

theorem witness_FaultChangesNoOperation :
    exec .tick s0 = .next { s0 with tc := 1, ms := 1, events := both } := rfl

/-- A first fault, and a later edge that keeps it. -/
theorem witness_FaultIsStickyUntilReset :
    (s0.present 0x8000).portInput.rst = false ∧
      step (s0.present 0x8000) = .next { s0 with fault := true, fcause := 1 } ∧
      step (State.present { s0 with fault := true, fcause := 1 } 0x7FFF) = .next { s0 with fault := true, fcause := 1 } :=
  ⟨rfl, rfl, rfl⟩

/-! ### Witnesses: the tick counters -/

theorem witness_NopChangesNothing : ref.ok = true ∧ exec .nop s0 = .next s0 := ⟨by decide, rfl⟩

/-- Below the ceiling, and at it with MS about to wrap. -/
theorem witness_TickAdvancesBothCounters :
    State.cfg { s0 with tc := 88473599 } = ref ∧ ref.ok = true ∧
      exec .tick { s0 with tc := 88473600, ms := 1023 } = .next { s0 with tc := 88473600, events := both } :=
  ⟨rfl, by decide, rfl⟩

theorem witness_RstcntZeroesTickCount : exec .rstcnt { s0 with tc := 1 } = .next { s0 with events := both } := rfl

/-- One short of the ceiling, with whole iterations between two ticks: a reading that agrees with PREV, and one that
differs inside the settle window. -/
theorem witness_TickCountIsTheSaturatedNumberOfTicks :
    ref.ok = true ∧ (88473599 : BitVec 27).toNat ≤ ref.tickCeil ∧
      KeepsCount [.tick, .mota 0, .amb 3, .duty, .tick] { s0 with tc := 88473599 } ∧
      KeepsCount [.mota 51, .amb 3, .duty, .tick, .motd true] { s0 with tc := 101 } ∧
      ¬ KeepsCount [.tick, .mota 51] { s0 with tc := 102 } := by decide

theorem witness_MillisCountsTheTicksModuloTheRing :
    ref.ok = true ∧ after (runOps [.tick, .rstcnt, .tick] { s0 with ms := 1022 }) =
      some { s0 with tc := 1, ms := 0, events := both } := by decide

theorem witness_TickAtTheResetBoundaryIsNeitherLostNorDoubled :
    ref.ok = true ∧ State.ResetsCount s0 .rstcnt ∧ State.ResetsCount { s0 with tc := 103 } (.mota 51) ∧
      ¬ State.ResetsCount { s0 with tc := 102 } (.mota 51) ∧
      after (runOps [.tick, .motd true] { s0 with tc := 102, ms := 3 }) =
        some { s0 with ms := 4, prev := true, mov := true, events := both } := by decide

/-- Both contexts, and both ways the control context treats TC. -/
theorem witness_ContextsKeepToTheirWriteSets :
    exec .tick s0 = .next { s0 with tc := 1, ms := 1, events := both } ∧ Instr.context .tick = .tick ∧
      exec .rstcnt { s0 with tc := 5 } = .next { s0 with events := both } ∧ Instr.context .rstcnt = .control ∧
      exec (.seed 601) { s0 with tc := 5 } = .next { s0 with tc := 5, acc := 601, dark := false } :=
  ⟨rfl, rfl, rfl, rfl, rfl⟩

/-! ### Witnesses: motion and the idle timer -/

/-- A change honoured just past the threshold, one not honoured at it, and a shut gate. -/
theorem witness_MotaRunsTheMotionStep :
    State.HonouredAt { s0 with tc := 103 } (decide (ref.motionTh < (51 : Sample).toNat)) ∧
      ¬ State.HonouredAt { s0 with tc := 102 } (decide (ref.motionTh < (51 : Sample).toNat)) ∧
      ¬ State.HonouredAt { s0 with tc := 103 } (decide (ref.motionTh < (50 : Sample).toNat)) ∧
      State.GateShut { s0 with cfg := rate128, ms := 127 } ∧ ¬ State.GateShut { s0 with cfg := rate128, ms := 128 } := by
  decide

theorem witness_MotdRunsTheMotionStep :
    State.HonouredAt { s0 with tc := 103, prev := true } false ∧
      ¬ State.HonouredAt { s0 with tc := 102, prev := true } false ∧ State.GateShut { s0 with cfg := rate128 } := by decide

/-- A shut gate, and the three kinds of row, for either command. -/
theorem witness_MotionTransitionsAreTheTable :
    State.GateShut { s0 with cfg := rate128, ms := 127 } ∧
      exec (.motd true) { s0 with cfg := rate128, ms := 127 } = .next { s0 with cfg := rate128, ms := 127 } ∧
      ¬ State.GateShut s0 ∧ motionClass ref (.mota 51) = some true ∧ motionClass ref (.motd false) = some false ∧
      exec (.motd false) { s0 with mov := true } = .next s0 ∧
      exec (.mota 51) { s0 with tc := 102 } = .next { s0 with tc := 102, mov := true } ∧
      exec (.mota 51) { s0 with tc := 103 } = .next { s0 with mov := true, prev := true, events := both } :=
  ⟨by decide, rfl, by decide, by decide, rfl, rfl, rfl, rfl⟩

/-- A first check in window 1, and a state at the end of the same window. -/
theorem witness_AtMostOneMotionCheckPerWindow :
    rate128.motionPolicy = .rate128 ∧ motionClass rate128 (.mota 51) = some true ∧
      motionClass rate128 (.motd false) = some false ∧
      exec (.mota 51) { s0 with cfg := rate128, ms := 128 } =
        .next { s0 with cfg := rate128, ms := 128, mep := 1, mov := true } ∧
      (255 : BitVec 10).toNat / 128 = (128 : BitVec 10).toNat / 128 :=
  ⟨rfl, by decide, rfl, rfl, by decide⟩

theorem witness_RateLimitedGateIsShutAfterReset :
    rate128.ok = true ∧ rate128.motionPolicy = .rate128 ∧ tickCount [.tick, .mota 51, .tick] < 128 := by decide

/-- With the settle threshold 0, one tick is enough and necessary. -/
theorem witness_HonouredChangesAreSpacedByTicks :
    State.tc (State.resetWith quick) = 0 ∧
      after (runOps [.tick] (State.resetWith quick)) = some { s0 with cfg := quick, tc := 1, ms := 1, events := both } ∧
      State.HonouredAt { s0 with cfg := quick, tc := 1, ms := 1, events := both } true := by decide

/-- A run that reaches its bound: two changes with one tick between them. -/
theorem witness_MotionResetsAreBoundedByTheTicks :
    quick.ok = true ∧ honouredCount [.motd true, .tick, .motd false] { s0 with cfg := quick, tc := 1 } = 2 ∧
      tickCount [.motd true, .tick, .motd false] / (quick.settleTh + 1) + 1 = 2 := by decide

/-- Both ways out of idleness, from the least idle TC. -/
theorem witness_OnlyResetCounterLeavesIdleness :
    ref.idleTh < (184321 : BitVec 27).toNat ∧
      exec .rstcnt { s0 with tc := 184321 } = .next { s0 with events := both } ∧
      exec (.mota 51) { s0 with tc := 184321 } = .next { s0 with mov := true, prev := true, events := both } :=
  ⟨by decide, rfl, rfl⟩

/-- The three phases at the ends of their ranges, and a tick across each threshold. -/
theorem witness_IdlePhaseMovesOnlyForwardUnderTicks :
    ref.settleTh < ref.idleTh ∧
      State.phase { s0 with tc := 102 } = .settling ∧ State.phase { s0 with tc := 103 } = .armed ∧
      State.phase { s0 with tc := 184320 } = .armed ∧ State.phase { s0 with tc := 184321 } = .idle ∧
      after (exec .tick { s0 with tc := 184320 }) = some { s0 with tc := 184321, ms := 1, events := both } := by decide

/-! ### Witnesses: the ambient filter -/

/-- The gate shut at the greatest SPC, and open with DARK at either value. -/
theorem witness_AmbUpdatesTheFilterWhenSampling :
    ref.ok = true ∧ State.spc { s0 with spc := 7 } ≠ 0 ∧ State.spc s0 = 0 ∧ State.dark s0 = true ∧
      State.dark { s0 with acc := 457, dark := false } = false := by decide

theorem witness_SeedLoadsTheAccumulator :
    ref.ok = true ∧ State.dark s0 = true ∧ State.dark { s0 with acc := 700, dark := false } = false := by decide

/-- A value below the band of the sample 500, both its ends, and a value above it. -/
theorem witness_MovingAverageRestsOnTheBandOfTheSample :
    62 = 500 / 2 ^ 3 ∧ 495 < 2 ^ 3 * 62 ∧ (2 ^ 3 * 62 ≤ 496 ∧ 503 ≤ 2 ^ 3 * 62 + 2 ^ 3 - 1) ∧
      2 ^ 3 * 62 + 2 ^ 3 - 1 < 504 := by decide

theorem witness_ConstantLightConvergesToTheBand :
    ref.ok = true ∧ State.spc s0 = 0 ∧ 496 = 2 ^ ref.emaK * ((500 : Sample).toNat / 2 ^ ref.emaK) ∧
      503 = 496 + 2 ^ ref.emaK - 1 ∧ State.acc { s0 with acc := 504 } = 504 := by decide

/-- A bright latch just above the low threshold and a dark one at the high threshold, with samples at their limits. -/
theorem witness_LatchHoldsWhileSamplesStayOnItsSide :
    after (runOps [.amb 401, .seed 401] { s0 with acc := 401, dark := false }) =
        some { s0 with acc := 401, dark := false } ∧
      ref.thLo < (401 : Sample).toNat ∧
      after (runOps [.amb 600, .seed 600] { s0 with acc := 600 }) = some { s0 with acc := 600 } ∧
      (600 : Sample).toNat ≤ ref.thHi := by decide

/-- V-A35 and V-A37: both commands, at the threshold and past it. -/
theorem witness_SingleThresholdLatchHasNoMemory :
    ref.singleThreshold.thLo = ref.singleThreshold.thHi ∧
      after (exec (.amb 512) { s0 with cfg := ref.singleThreshold, acc := 511 }) =
        some { s0 with cfg := ref.singleThreshold, acc := 512, dark := false } ∧
      after (exec (.seed 511) { s0 with cfg := ref.singleThreshold, dark := false }) =
        some { s0 with cfg := ref.singleThreshold, acc := 511 } := by decide

/-! ### Witnesses: the lamps -/

/-- Idle and not idle at the TC values that meet, and both meter modes. -/
theorem witness_DutyDecidesIdlenessAndLooksUpTheLamps :
    ref.ok = true ∧ hw.ok = true ∧ ref.idleTh < (184321 : BitVec 27).toNat ∧ (184320 : BitVec 27).toNat ≤ ref.idleTh ∧
      ref.meterMode = .sw ∧ hw.meterMode = .hw := by decide

/-- A value of MS in each window and in each interval between them. -/
theorem witness_DefaultTailFlashesInItsTwoWindows :
    ref.tailD = 60 ∧ ref.tailP = 100 ∧ State.tc s0 = 0 ∧
      (after (exec .duty { s0 with ms := 59 })).map (fun t => t.dutyTail) = some 124 ∧
      (after (exec .duty { s0 with ms := 60 })).map (fun t => t.dutyTail) = some 20 ∧
      (after (exec .duty { s0 with ms := 100 })).map (fun t => t.dutyTail) = some 124 ∧
      (after (exec .duty { s0 with ms := 160 })).map (fun t => t.dutyTail) = some 20 := by decide

theorem witness_TailFlashesTwiceItsDurationPerRing :
    ref.ok = true ∧ Config.ok { ref with tailD := 512, tailP := 512 } = true := by decide

/-- Two states that differ in every register DUTY does not read. -/
theorem witness_DutyDependsOnFourRegistersOnly :
    exec .duty s0 =
        .next { s0 with pwrEn := true, dutyHead := 124, dutyTail := 124, aux := true, spc := 1 } ∧
      exec .duty { s0 with prev := true, mov := true, mep := 7, acc := 9, idle := true, dutyMeter := 3, fault := true } =
        .next { s0 with prev := true, mov := true, mep := 7, acc := 9, fault := true, pwrEn := true, dutyHead := 124,
                        dutyTail := 124, aux := true, spc := 1 } := ⟨rfl, rfl⟩

/-- An operation that is not DUTY, and a DUTY that raises AUX. -/
theorem witness_OnlyDutyWritesTheOutputs :
    exec .tick s0 = .next { s0 with tc := 1, ms := 1, events := both } ∧ Instr.tick ≠ .duty ∧
      exec .duty s0 = .next { s0 with pwrEn := true, dutyHead := 124, dutyTail := 124, aux := true, spc := 1 } :=
  ⟨rfl, by decide, rfl⟩

theorem witness_PwmCounterCountsDutiesModuloThePeriod :
    ref.ok = true ∧ State.spc { s0 with spc := 7 } = 7 ∧ (7 : BitVec 8).toNat < ref.swPeriod := by decide

/-- A period of two begun at its second half, with a tick, a motion command and an AMB between its DUTYs. -/
theorem witness_PwmIsHighForItsDutyInEveryPeriod :
    pair.ok = true ∧ pair.meterMode = .sw ∧ (1 : BitVec 8).toNat < pair.swPeriod ∧
      [Instr.duty, .tick, .motd true, .amb 3, .duty].count .duty = pair.swPeriod ∧
      (∀ v ∈ visits [.duty, .tick, .motd true, .amb 3, .duty] { s0 with cfg := pair, spc := 1 },
        v.op = .duty → v.before.dark = true ∧ v.before.tc.toNat ≤ pair.idleTh) ∧
      auxCount [.duty, .tick, .motd true, .amb 3, .duty] { s0 with cfg := pair, spc := 1 } = 1 := by decide

/-! ### Witnesses: iterations and invariants -/

/-- With the idle threshold 0, one tick is enough. -/
theorem witness_QuietTimeTurnsTheOutputsOff :
    quick.ok = true ∧ (State.resetWith quick).tc.toNat ≤ quick.tickCeil ∧
      KeepsCount [.motd false, .amb 9, .duty, .tick, .motd false] (State.resetWith quick) ∧
      quick.idleTh + 1 ≤ tickCount [.motd false, .amb 9, .duty, .tick, .motd false] := by decide

theorem witness_HonouredChangeWakesTheSameIteration :
    ref.ok = true ∧ motionClass ref (.mota 51) = some true ∧ State.HonouredAt { s0 with tc := 184321, idle := true } true := by
  decide

theorem witness_MotionAndAmbientCommute :
    motionClass ref (.motd true) = some true ∧
      exec (.motd true) { s0 with tc := 103 } = .next { s0 with prev := true, mov := true, events := both } ∧
      exec (.amb 8) { s0 with prev := true, mov := true, events := both } =
        .next { s0 with prev := true, mov := true, acc := 1, events := both } ∧
      exec (.amb 8) { s0 with tc := 103 } = .next { s0 with tc := 103, acc := 1 } ∧
      exec (.motd true) { s0 with tc := 103, acc := 1 } =
        .next { s0 with prev := true, mov := true, acc := 1, events := both } := ⟨rfl, rfl, rfl, rfl, rfl⟩

theorem witness_PseudoOperationsExpandAsListed : 1023 ≤ 1023 ∧ 1 ≤ 1 ∧
    AsmLine.expand (.iter 1023 1023) = some [.mota 1023, .amb 1023, .duty] := by decide

theorem witness_InvariantHoldsAtReset : ref.ok = true ∧ rate128.ok = true ∧ hw.ok = true := by decide

/-- The reset state under REF meets the invariant, and a step leads on from it. -/
theorem witness_EveryStepKeepsTheInvariant :
    State.Inv (s0.present 0x7000) ∧
      step (s0.present 0x7000) =
        .next { s0 with pwrEn := true, dutyHead := 124, dutyTail := 124, aux := true, spc := 1 } :=
  ⟨⟨by decide, ⟨by decide, by decide, by decide, by decide, by decide, by decide, by decide⟩,
    ⟨by decide, by decide, by decide⟩, ⟨by decide, by decide⟩, by decide, by decide, by decide⟩, rfl⟩

/-- A reachable state that is not a reset state. -/
theorem witness_ReachableStatesMeetTheInvariant :
    Reachable { s0 with tc := 1, ms := 1, events := both } :=
  .step (s0.present 0x1000) _ (.reset ref [PortInput.command 0x1000] (by decide)) rfl

end Sys2Proof.Machine.Tests
end

section
/-! The family 00_scope: the configuration check of R10, and what it refuses. -/

namespace Sys2Proof

/-- The other direction of `Config.facts`: each check of `cfg_ok` is met by the facts it speaks of. -/
theorem Config.ok_of_facts {c : Config} (f : c.Facts) : c.ok = true := by
  have tickCeil : c.tickCeilOk = true := decide_eq_true ⟨f.tickCeil_pos, f.tickCeil_le⟩
  have motionTh : c.motionThOk = true := decide_eq_true f.motionTh_le
  have settleTh : c.settleThOk = true := decide_eq_true f.settleTh_lt
  have idleTh : c.idleThOk = true := decide_eq_true f.idleTh_lt
  have emaK : c.emaKOk = true := decide_eq_true f.emaK_le
  have thresholds : c.thresholdsOk = true := decide_eq_true ⟨f.thLo_le, f.thHi_le, f.thLo_le_thHi⟩
  have head : c.headOk = true := decide_eq_true ⟨f.headDark_le, f.headBright_le⟩
  have tailDuty : c.tailDutyOk = true := decide_eq_true ⟨f.tailFlash_le, f.tailDim_le⟩
  have tailWindows : c.tailWindowsOk = true :=
    decide_eq_true ⟨f.tailD_le, f.tailP_le, f.tailD_le_tailP, f.tail_fits⟩
  have meter : c.meterOk = true := decide_eq_true ⟨f.meterDark_le, f.meterBright_le⟩
  have swPwm : c.swPwmOk = true := decide_eq_true ⟨f.swPeriod_pos, f.swPeriod_le, f.swDuty_le⟩
  simp only [Config.ok, tickCeil, motionTh, settleTh, idleTh, emaK, thresholds, head, tailDuty, tailWindows, meter,
    swPwm, Bool.and_self]

/-- `cfg_ok` is exactly the ranges and the cross-field conditions (R8, R10). -/
theorem Config.ok_iff_facts (c : Config) : c.ok = true ↔ c.Facts := ⟨Config.facts, Config.ok_of_facts⟩

namespace Machine

/-- Accepting a word, legal or not, is the completion of some state that keeps the configuration and the inputs to
come. -/
theorem State.accept_completes (s : State) (w : Word) :
    ∃ t, s.accept w = s.complete t ∧ t.cfg = s.cfg ∧ t.inputs = s.inputs := by
  unfold State.accept
  split
  next i _ =>
    obtain ⟨t, completes, cfg, inputs, -, -⟩ := exec_completes i s
    exact ⟨t, completes, cfg, inputs⟩
  next why _ => exact ⟨s.raiseFault why.code, rfl, rfl, rfl⟩

/-- The three branches of an edge (R45, R240), each the completion of some state that keeps the configuration and the
inputs to come. -/
theorem State.edgeWith_completes (s : State) (p : PortInput) :
    ∃ t, s.edgeWith p = s.complete t ∧ t.cfg = s.cfg ∧ t.inputs = s.inputs := by
  unfold State.edgeWith
  split
  · exact ⟨s.resetRegisters, rfl, rfl, rfl⟩
  · split
    · exact s.accept_completes p.cmd
    · exact ⟨s, rfl, rfl, rfl⟩

/-- Every step is the completion, from the start of its edge, of some state that keeps the configuration and has one
input fewer to come. -/
theorem step_completes (s : State) :
    ∃ t, step s = s.beginEdge.complete t ∧ t.cfg = s.cfg ∧ t.inputs = s.inputs.tail :=
  s.beginEdge.edgeWith_completes s.portInput

/-- No operation has a behaviour under an ill-formed configuration (R10, U9). -/
theorem exec_of_not_ok {s : State} (h : s.cfg.ok = false) (i : Instr) : exec i s = .refused .illFormedConfig := by
  obtain ⟨t, completes, -⟩ := exec_completes i s
  rw [completes, State.complete_of_not_ok h]

/-- No edge has a behaviour under an ill-formed configuration, a reset edge included (R10, U9). -/
theorem step_of_not_ok {s : State} (h : s.cfg.ok = false) : step s = .refused .illFormedConfig := by
  obtain ⟨t, completes, -⟩ := step_completes s
  have begun : s.beginEdge.cfg.ok = false := h
  rw [completes, State.complete_of_not_ok begun]

/-- Settles O6: the check is `Config.Facts` in both directions, where `SETTLE_TH` and `IDLE_TH` at most `TICK_CEIL - 1`
is strictly below it because `TICK_CEIL` is at least 1; the refusals are those of the common completion. -/
theorem illFormedConfigurationIsRefused : Obligations.IllFormedConfigurationIsRefused := by
  refine ⟨fun c => ?_, fun s h => ⟨step_of_not_ok h, exec_of_not_ok h⟩⟩
  rw [Config.ok_iff_facts]
  constructor
  · intro f
    exact ⟨⟨f.tickCeil_pos, f.tickCeil_le⟩, f.motionTh_le, Nat.le_sub_one_of_lt f.settleTh_lt,
      Nat.le_sub_one_of_lt f.idleTh_lt, f.emaK_le, f.thLo_le, f.thHi_le, f.thLo_le_thHi, f.headDark_le,
      f.headBright_le, f.tailFlash_le, f.tailDim_le, f.tailD_le, f.tailP_le, f.tailD_le_tailP, f.tail_fits,
      f.meterDark_le, f.meterBright_le, f.swPeriod_pos, f.swPeriod_le, f.swDuty_le⟩
  · rintro ⟨⟨ceilPos, ceilLe⟩, motionTh, settleTh, idleTh, rest⟩
    have settleTh_lt : c.settleTh < c.tickCeil := Nat.lt_of_le_sub_one ceilPos settleTh
    have idleTh_lt : c.idleTh < c.tickCeil := Nat.lt_of_le_sub_one ceilPos idleTh
    obtain ⟨emaK, thLo, thHi, band, headDark, headBright, tailFlash, tailDim, rest⟩ := rest
    obtain ⟨tailD, tailP, tailOrder, tailFits, meterDark, meterBright, swPos, swLe, swDuty⟩ := rest
    exact ⟨ceilPos, ceilLe, motionTh, settleTh_lt, idleTh_lt, emaK, thLo, thHi, band, headDark, headBright, tailFlash,
      tailDim, tailD, tailP, tailOrder, tailFits, meterDark, meterBright, swPos, swLe, swDuty⟩

end Machine
end Sys2Proof
end

section
/-! The family 10_state: the reset values, the write sets of the two contexts, and the ports with their pulses. -/

namespace Sys2Proof.Machine

/-! ### Reset -/

/-- Settles O1: `State.reset` is one of the reset states, and each holds the values R48 lists. -/
theorem resetHoldsTheStatedValues : Obligations.ResetHoldsTheStatedValues := by
  rintro r (rfl | ⟨c, rfl⟩)
  · simp [State.reset]
  · simp

/-! ### The write sets of the two contexts -/

/-- TC and MS as an operation of the control context may leave them: MS as it was, TC as it was or 0 (R37). -/
abbrev State.CountersKeptOrZeroed (s t : State) : Prop := t.ms = s.ms ∧ (t.tc = s.tc ∨ t.tc = 0)

/-- A motion step zeroes TC where it honours a change and leaves both counters alone where it does not. -/
theorem State.motionStep_counters (s : State) (cur : Bool) : s.CountersKeptOrZeroed (s.motionStep cur) := by
  rcases s.motionStep_cases cur with ⟨-, shut⟩ | ⟨-, -, noted⟩ | ⟨-, -, honoured⟩
  · rw [shut]; exact ⟨rfl, .inl rfl⟩
  · rw [noted]; exact ⟨rfl, .inl rfl⟩
  · rw [honoured]; exact ⟨rfl, .inr rfl⟩

/-- TICK writes nothing but TC, MS and the events (R37, R110). -/
theorem exec_tick_frame {s t : State} (h : exec .tick s = .next t) :
    { t with tc := s.tc, ms := s.ms, events := s.events } = s := by
  rw [exec_tick] at h
  obtain ⟨-, rfl⟩ := State.complete_next h
  rfl

/-- The control context, operation by operation: only RSTCNT and the motion commands come near TC, none near MS. -/
theorem exec_control_counters {i : Instr} {s t : State} (control : i.context = .control) (h : exec i s = .next t) :
    s.CountersKeptOrZeroed t := by
  cases i with
  | nop =>
    rw [exec_nop] at h
    obtain ⟨-, rfl⟩ := State.complete_next h
    exact ⟨rfl, .inl rfl⟩
  | tick => cases control
  | rstcnt =>
    rw [exec_rstcnt] at h
    obtain ⟨-, rfl⟩ := State.complete_next h
    exact ⟨rfl, .inr rfl⟩
  | mota raw =>
    rw [exec_mota] at h
    obtain ⟨-, rfl⟩ := State.complete_next h
    exact s.motionStep_counters _
  | motd lvl =>
    rw [exec_motd] at h
    obtain ⟨-, rfl⟩ := State.complete_next h
    exact s.motionStep_counters lvl
  | amb raw =>
    rw [exec_amb] at h
    obtain ⟨-, rfl⟩ := State.complete_next h
    split <;> exact ⟨rfl, .inl rfl⟩
  | seed raw =>
    rw [exec_seed] at h
    obtain ⟨-, rfl⟩ := State.complete_next h
    exact ⟨rfl, .inl rfl⟩
  | duty =>
    rw [exec_duty] at h
    obtain ⟨-, rfl⟩ := State.complete_next h
    split <;> exact ⟨rfl, .inl rfl⟩

/-- Settles O24: TICK is the only operation of the tick context, and its frame is the first half; the second half is
the control context operation by operation. -/
theorem contextsKeepToTheirWriteSets : Obligations.ContextsKeepToTheirWriteSets := by
  intro i s t h
  refine ⟨fun tick => ?_, fun control => exec_control_counters control h⟩
  cases i <;> cases tick
  exact exec_tick_frame h

/-! ### The events of an operation and of an edge -/

/-- Between `s` and `t` both events were emitted, in the order of R110 and R111, where `p` holds, and none where it
does not. -/
inductive State.EmitsBothIff (s : State) (p : Prop) (t : State) : Prop
  | emits : p → t.events = s.events ++ [.tmrReload, .tickClr] → s.EmitsBothIff p t
  | silent : ¬ p → t.events = s.events → s.EmitsBothIff p t

/-- The condition may be replaced by an equivalent one. -/
theorem State.EmitsBothIff.congr {s t : State} {p q : Prop} (h : s.EmitsBothIff p t) (pq : p ↔ q) :
    s.EmitsBothIff q t := by
  rwa [← pq]

/-- From an empty list of events, both pulses of R46 show the condition. -/
theorem State.EmitsBothIff.pulses {s t : State} {p : Prop} (h : s.EmitsBothIff p t) (empty : s.events = []) :
    (t.outputs.tmrReload = true ↔ p) ∧ t.outputs.tickClr = t.outputs.tmrReload := by
  cases h with
  | emits hp events => simp [State.outputs, events, empty, hp]
  | silent hp events => simp [State.outputs, events, empty, hp]

/-- A motion step emits exactly where it honours the change (R142). -/
theorem State.motionStep_events (s : State) (cur : Bool) :
    s.EmitsBothIff (s.HonouredAt cur) (s.motionStep cur) := by
  rw [← s.honours_iff cur]
  rcases s.motionStep_cases cur with ⟨shut, same⟩ | ⟨-, refused, noted⟩ | ⟨-, honoured, zeroed⟩
  · exact .silent (by simp [State.honours, shut]) (by rw [same])
  · exact .silent (by simp [refused]) (by rw [noted])
  · exact .emits honoured (by rw [zeroed])

/-- A motion command performs `do_rstcnt` exactly where it honours its classification. -/
theorem State.resetsCount_motion {s : State} {i : Instr} {cur : Bool} (h : motionClass s.cfg i = some cur) :
    s.ResetsCount i ↔ s.HonouredAt cur := by
  constructor
  · rintro (rfl | ⟨cur', class', honoured⟩)
    · cases h
    · obtain rfl : cur' = cur := Option.some.inj (class'.symm.trans h)
      exact honoured
  · intro honoured
    exact .inr ⟨cur, h, honoured⟩

/-- Among the operations without a classification only RSTCNT performs `do_rstcnt`. -/
theorem State.resetsCount_not_motion {s : State} {i : Instr} (h : motionClass s.cfg i = none) :
    s.ResetsCount i ↔ i = .rstcnt := by
  simp [State.ResetsCount, h]

/-- A motion command emits exactly where it performs `do_rstcnt`. -/
theorem exec_motion_events {i : Instr} {s t : State} {cur : Bool} (hm : motionClass s.cfg i = some cur)
    (h : exec i s = .next t) : s.EmitsBothIff (i = .tick ∨ s.ResetsCount i) t := by
  have notTick : i ≠ .tick := by rintro rfl; cases hm
  rw [exec_motion hm] at h
  obtain ⟨-, rfl⟩ := State.complete_next h
  apply (s.motionStep_events cur).congr
  simp only [notTick, false_or]
  exact (State.resetsCount_motion hm).symm

/-- An operation that is neither TICK, RSTCNT nor a motion command meets the law of `exec_events` by emitting nothing. -/
theorem State.emitsBothIff_of_no_reset {s t : State} {i : Instr} (hm : motionClass s.cfg i = none)
    (notTick : i ≠ .tick) (notRstcnt : i ≠ .rstcnt) (events : t.events = s.events) :
    s.EmitsBothIff (i = .tick ∨ s.ResetsCount i) t := by
  refine .silent ?_ events
  rw [State.resetsCount_not_motion hm]
  exact not_or.mpr ⟨notTick, notRstcnt⟩

/-- The operations that emit: TICK, and what performs `do_rstcnt` (R14, R110, R111). -/
theorem exec_events {i : Instr} {s t : State} (h : exec i s = .next t) :
    s.EmitsBothIff (i = .tick ∨ s.ResetsCount i) t := by
  cases i with
  | nop =>
    rw [exec_nop] at h
    obtain ⟨-, rfl⟩ := State.complete_next h
    exact State.emitsBothIff_of_no_reset rfl nofun nofun rfl
  | tick =>
    rw [exec_tick] at h
    obtain ⟨-, rfl⟩ := State.complete_next h
    exact .emits (.inl rfl) (by simp)
  | rstcnt =>
    rw [exec_rstcnt] at h
    obtain ⟨-, rfl⟩ := State.complete_next h
    exact .emits (.inr (.inl rfl)) (by rw [State.doRstcnt_eq])
  | mota raw => exact exec_motion_events rfl h
  | motd lvl => exact exec_motion_events rfl h
  | amb raw =>
    rw [exec_amb] at h
    obtain ⟨-, rfl⟩ := State.complete_next h
    exact State.emitsBothIff_of_no_reset rfl nofun nofun (by split <;> rfl)
  | seed raw =>
    rw [exec_seed] at h
    obtain ⟨-, rfl⟩ := State.complete_next h
    exact State.emitsBothIff_of_no_reset rfl nofun nofun rfl
  | duty =>
    rw [exec_duty] at h
    obtain ⟨-, rfl⟩ := State.complete_next h
    exact State.emitsBothIff_of_no_reset rfl nofun nofun (by split <;> rfl)

/-- The word is a command whose operation emits in the state `s`. -/
abbrev State.WordEmits (s : State) (w : Word) : Prop :=
  ∃ i, decode w = .op i ∧ (i = .tick ∨ s.ResetsCount i)

/-- An accepted word emits what its operation emits, and an illegal one nothing (R211). -/
theorem State.accept_events {s t : State} {w : Word} (h : s.accept w = .next t) :
    s.EmitsBothIff (s.WordEmits w) t := by
  unfold State.accept at h
  split at h
  next i decoded =>
    apply (exec_events h).congr
    simp [State.WordEmits, decoded]
  next why decoded =>
    obtain ⟨-, rfl⟩ := State.complete_next h
    exact .silent (by simp [State.WordEmits, decoded]) rfl

/-- An edge, whose events begin empty, emits only where it accepts a word that does: not on reset (R240) and not with
nothing presented (R45). -/
theorem State.edgeWith_events {s t : State} {p : PortInput} (empty : s.events = []) (h : s.edgeWith p = .next t) :
    s.EmitsBothIff (p.rst = false ∧ p.cmdValid = true ∧ s.WordEmits p.cmd) t := by
  unfold State.edgeWith at h
  split at h
  next reset =>
    obtain ⟨-, rfl⟩ := State.complete_next h
    exact .silent (by simp [reset]) (by simp [empty])
  next noReset =>
    split at h
    next valid =>
      apply (State.accept_events h).congr
      simp [noReset, valid]
    next notValid =>
      obtain ⟨-, rfl⟩ := State.complete_next h
      exact .silent (by simp [notValid]) rfl

/-- Settles O8: the register ports read the registers, and the pulses are the events of an edge that began with none.
The start of the edge has the registers of `s`, so the condition on the operation is that of `s`. -/
theorem portsShowTheRegistersAndTheEvents : Obligations.PortsShowTheRegistersAndTheEvents := by
  constructor
  · intro s
    exact ⟨rfl, rfl, rfl, rfl, rfl, rfl, rfl, rfl, rfl, rfl, rfl, rfl, rfl, rfl, rfl, rfl⟩
  · intro s t h
    have began : s.beginEdge.events = [] := s.beginEdge_events
    exact (State.edgeWith_events began h).pulses began

end Sys2Proof.Machine
end

section
/-! The family 30_encoding: the decoder's checks in their order, the opcode map, and the pseudo-operations. -/

namespace Sys2Proof

/-! ### What the decoder does, check by check (R84) -/

/-- Check (1): a reserved operation code. -/
theorem decode_of_reserved_code {w : Word} (code : 8 ≤ (opcField w).toNat) : decode w = .illegal .opcode :=
  if_pos code

/-- Check (2): reserved bits under a legal operation code. -/
theorem decode_of_reserved_bits {w : Word} (legal : (opcField w).toNat < 8) (rsv : (rsvField w).toNat ≠ 0) :
    decode w = .illegal .reserved := by
  have rsvField_ne : rsvField w ≠ 0 := fun zero => rsv (by rw [zero]; rfl)
  rw [decode, if_neg (Nat.not_le.mpr legal), if_pos rsvField_ne]

/-- Past checks (1) and (2) the operand decides, under the known operation code. -/
theorem decode_of_code {w : Word} {n : Nat} (code : (opcField w).toNat = n) (legal : n < 8)
    (rsv : (rsvField w).toNat = 0) : decode w = decodeOperand (BitVec.ofNat 4 n) (opdField w) := by
  subst code
  have rsvField_eq : rsvField w = 0 := BitVec.eq_of_toNat_eq rsv
  rw [decode, if_neg (Nat.not_le.mpr legal), if_neg (not_not_intro rsvField_eq), BitVec.ofNat_toNat,
    BitVec.setWidth_eq]

/-- Check (3) without operand, on the value of OPD. -/
theorem withoutOperand_eq (opd : BitVec 10) (i : Instr) :
    withoutOperand opd i = if opd.toNat = 0 then .op i else .illegal .reserved := by
  have opd_zero : opd = 0 ↔ opd.toNat = 0 := BitVec.toNat_eq
  simp only [withoutOperand, opd_zero]

/-- Check (3) on MOTD, on the value of OPD: OPD[9:1] is its half and OPD[0] its parity. -/
theorem withPinLevel_eq (opd : BitVec 10) :
    withPinLevel opd =
      if opd.toNat / 2 = 0 then .op (.motd (decide (opd.toNat % 2 = 1))) else .illegal .reserved := by
  have half : opd.extractLsb' 1 9 = 0 ↔ opd.toNat / 2 = 0 := by
    have := opd.isLt
    simp [BitVec.toNat_eq, Nat.shiftRight_eq_div_pow]
    omega
  have parity : opd.getLsbD 0 = decide (opd.toNat % 2 = 1) := Nat.testBit_zero opd.toNat
  simp only [withPinLevel, half, parity]

/-- An operation without operand is read from an operand field of 0 only. -/
theorem withoutOperand_eq_op {opd : BitVec 10} {i j : Instr} :
    withoutOperand opd j = .op i ↔ opd.toNat = 0 ∧ j = i := by
  rw [withoutOperand_eq]
  split <;> simp [*]

/-- MOTD is read from the operand fields 0 and 1 only. -/
theorem withPinLevel_eq_op {opd : BitVec 10} {i : Instr} :
    withPinLevel opd = .op i ↔ opd.toNat / 2 = 0 ∧ .motd (decide (opd.toNat % 2 = 1)) = i := by
  rw [withPinLevel_eq]
  split <;> simp [*]

/-- Settles O11: each clause is one check of R84, or the operation of a code past all of them. -/
theorem decoderFollowsTheChecksInOrder : Obligations.DecoderFollowsTheChecksInOrder := by
  intro w opc rsv opd hopc hrsv hopd
  rw [← opcField_toNat] at hopc
  rw [← rsvField_toNat] at hrsv
  rw [← opdField_toNat] at hopd
  subst hopc hrsv hopd
  rw [BitVec.ofNat_toNat, BitVec.setWidth_eq]
  refine ⟨decode_of_reserved_code, decode_of_reserved_bits, ?operandless, ?pinLevelRange, ?plain, ?pinLevel, ?sample⟩
  case operandless =>
    intro _ rsv code opd
    have refused (i : Instr) : withoutOperand (opdField w) i = .illegal .reserved := by
      rw [withoutOperand_eq, if_neg opd]
    rcases code with code | code | code | code
    · exact (decode_of_code code (by decide) rsv).trans (refused .nop)
    · exact (decode_of_code code (by decide) rsv).trans (refused .tick)
    · exact (decode_of_code code (by decide) rsv).trans (refused .rstcnt)
    · exact (decode_of_code code (by decide) rsv).trans (refused .duty)
  case pinLevelRange =>
    intro rsv code opd
    exact (decode_of_code code (by decide) rsv).trans ((withPinLevel_eq _).trans (if_neg opd))
  case plain =>
    intro rsv opd
    have read (i : Instr) : withoutOperand (opdField w) i = .op i := withoutOperand_eq_op.mpr ⟨opd, rfl⟩
    exact ⟨fun code => (decode_of_code code (by decide) rsv).trans (read .nop),
      fun code => (decode_of_code code (by decide) rsv).trans (read .tick),
      fun code => (decode_of_code code (by decide) rsv).trans (read .rstcnt),
      fun code => (decode_of_code code (by decide) rsv).trans (read .duty)⟩
  case pinLevel =>
    intro rsv code opd
    exact (decode_of_code code (by decide) rsv).trans (withPinLevel_eq_op.mpr ⟨opd, rfl⟩)
  case sample =>
    intro rsv
    exact ⟨fun code => decode_of_code code (by decide) rsv, fun code => decode_of_code code (by decide) rsv,
      fun code => decode_of_code code (by decide) rsv⟩

/-! ### The opcode map (R82) -/

/-- A word is the value of its three fields in their places (R80). -/
theorem toNat_eq_fields (w : Word) :
    w.toNat = 4096 * (opcField w).toNat + 1024 * (rsvField w).toNat + (opdField w).toNat := by
  rw [opcField_toNat, rsvField_toNat, opdField_toNat]
  omega

/-- Only the encoding of an operation decodes to it: the checks leave no bit of the word open. -/
theorem encode_of_decode {w : Word} {i : Instr} (h : decode w = .op i) : encode i = w := by
  have legal : (opcField w).toNat < 8 := by
    by_contra reserved
    rw [decode_of_reserved_code (Nat.not_lt.mp reserved)] at h
    cases h
  have rsv : (rsvField w).toNat = 0 := by
    by_contra reserved
    rw [decode_of_reserved_bits legal reserved] at h
    cases h
  have fields := toNat_eq_fields w
  apply BitVec.eq_of_toNat_eq
  rw [encode_toNat]
  generalize code : (opcField w).toNat = n at legal fields
  rw [decode_of_code code legal rsv] at h
  have kinds : (n = 0 ∨ n = 1 ∨ n = 2 ∨ n = 7) ∨ n = 4 ∨ (n = 3 ∨ n = 5 ∨ n = 6) := by omega
  rcases kinds with plain | rfl | sample
  · rcases plain with rfl | rfl | rfl | rfl
    all_goals
      obtain ⟨opd, rfl⟩ := withoutOperand_eq_op.mp h
      simp only
      omega
  · obtain ⟨opd, rfl⟩ := withPinLevel_eq_op.mp h
    simp only [Bool.toNat, Bool.cond_decide]
    split <;> omega
  · rcases sample with rfl | rfl | rfl
    all_goals
      cases h
      simp only
      omega

/-- A word selects a row by mask and match (R82). -/
theorem TableRow.selects_iff (r : TableRow) (w : Word) : r.selects w = true ↔ w &&& r.mask = r.matchBits := beq_iff_eq

/-- Every operation has its row in the map, whatever its operand. -/
theorem Instr.row_mem_opcodeMap (i : Instr) : i.row ∈ opcodeMap := by
  cases i <;> simp [opcodeMap, Instr.row]

/-- The word of an operation selects the operation's row. -/
theorem encode_selects_row (i : Instr) : i.row.selects (encode i) = true := by
  rw [TableRow.selects_iff]
  cases i with
  | nop => exact Laws.EncodingInRow.nop
  | tick => exact Laws.EncodingInRow.tick
  | rstcnt => exact Laws.EncodingInRow.rstcnt
  | mota raw => exact Laws.EncodingInRow.mota raw
  | motd lvl => exact Laws.EncodingInRow.motd lvl
  | amb raw => exact Laws.EncodingInRow.amb raw
  | seed raw => exact Laws.EncodingInRow.seed raw
  | duty => exact Laws.EncodingInRow.duty

/-- A row that leaves no bit open holds its match alone. -/
theorem eq_of_fullRow {w m : Word} (row : w &&& 0xFFFF = m) : w = m := (mask_FFFF w).symm.trans row

/-- A word in a row that leaves the ten operand bits open has the code of the row's match. -/
theorem decode_of_sampleRow {w : Word} {n : Nat} (row : w &&& 0xFC00 = BitVec.ofNat 16 (4096 * n)) (legal : n < 8) :
    decode w = decodeOperand (BitVec.ofNat 4 n) (opdField w) := by
  have high : w.toNat / 1024 * 1024 = 4096 * n := by
    rw [← mask_FC00_toNat, row, BitVec.toNat_ofNat]
    omega
  have code : (opcField w).toNat = n := by rw [opcField_toNat]; omega
  have rsv : (rsvField w).toNat = 0 := by rw [rsvField_toNat]; omega
  exact decode_of_code code legal rsv

/-- A word in the row of MOTD, which leaves OPD[0] open, is a MOTD. -/
theorem decode_of_pinLevelRow {w : Word} (row : w &&& 0xFFFE = 0x4000) : ∃ lvl, decode w = .op (.motd lvl) := by
  have high : w.toNat / 2 * 2 = 0x4000 := by
    rw [← mask_FFFE_toNat, row]
    rfl
  have code : (opcField w).toNat = 4 := by rw [opcField_toNat]; omega
  have rsv : (rsvField w).toNat = 0 := by rw [rsvField_toNat]; omega
  have opd : (opdField w).toNat / 2 = 0 := by rw [opdField_toNat]; omega
  exact ⟨_, (decode_of_code code (by decide) rsv).trans (withPinLevel_eq_op.mpr ⟨opd, rfl⟩)⟩

/-- A word that selects the row of an operation decodes to an operation of that row. -/
theorem decode_of_selects_row {w : Word} {j : Instr} (h : j.row.selects w = true) :
    ∃ i, decode w = .op i ∧ i.row = j.row := by
  rw [TableRow.selects_iff] at h
  cases j with
  | nop =>
    obtain rfl := eq_of_fullRow h
    exact ⟨.nop, rfl, rfl⟩
  | tick =>
    obtain rfl := eq_of_fullRow h
    exact ⟨.tick, rfl, rfl⟩
  | rstcnt =>
    obtain rfl := eq_of_fullRow h
    exact ⟨.rstcnt, rfl, rfl⟩
  | mota => exact ⟨.mota (opdField w), decode_of_sampleRow (n := 3) h (by decide), rfl⟩
  | motd =>
    obtain ⟨lvl, decoded⟩ := decode_of_pinLevelRow h
    exact ⟨.motd lvl, decoded, rfl⟩
  | amb => exact ⟨.amb (opdField w), decode_of_sampleRow (n := 5) h (by decide), rfl⟩
  | seed => exact ⟨.seed (opdField w), decode_of_sampleRow (n := 6) h (by decide), rfl⟩
  | duty =>
    obtain rfl := eq_of_fullRow h
    exact ⟨.duty, rfl, rfl⟩

/-- Every row of the map is the row of an operation. -/
theorem exists_row_of_mem_opcodeMap {r : TableRow} (h : r ∈ opcodeMap) : ∃ j : Instr, j.row = r := by
  simp only [opcodeMap, List.mem_cons, List.not_mem_nil, or_false] at h
  rcases h with rfl | rfl | rfl | rfl | rfl | rfl | rfl | rfl <;> exact ⟨_, rfl⟩

/-- A word that selects a row of the map decodes to an operation of that row. -/
theorem decode_of_mem_opcodeMap {w : Word} {r : TableRow} (mem : r ∈ opcodeMap) (h : r.selects w = true) :
    ∃ i, decode w = .op i ∧ i.row = r := by
  obtain ⟨j, rfl⟩ := exists_row_of_mem_opcodeMap mem
  exact decode_of_selects_row h

/-- Two rows of the map that one word selects are the same: both are the row of what the word decodes to. -/
theorem row_unique_of_selects {w : Word} {r q : TableRow} (hr : r ∈ opcodeMap) (hq : q ∈ opcodeMap)
    (selectsR : r.selects w = true) (selectsQ : q.selects w = true) : r = q := by
  obtain ⟨i, decodedI, rfl⟩ := decode_of_mem_opcodeMap hr selectsR
  obtain ⟨j, decodedJ, rfl⟩ := decode_of_mem_opcodeMap hq selectsQ
  obtain rfl : i = j := Decoded.op.inj (decodedI.symm.trans decodedJ)
  rfl

/-- Settles O14: a legal word is the encoding of its operation, which selects the operation's row; the rows are
disjoint because a word decodes to one operation and no row stands in the map twice. -/
theorem tableRowsSelectTheLegalWords : Obligations.TableRowsSelectTheLegalWords := by
  refine ⟨rfl, TableRow.selects_iff, ?disjoint, fun w i decoded => ⟨i.row_mem_opcodeMap, ?ownRow⟩,
    fun w r mem => decode_of_mem_opcodeMap mem⟩
  case disjoint =>
    have nodup : opcodeMap.Nodup := by decide
    apply nodup.imp_of_mem
    rintro r q hr hq distinct w ⟨selectsR, selectsQ⟩
    exact distinct (row_unique_of_selects hr hq selectsR selectsQ)
  case ownRow =>
    rw [← encode_of_decode decoded]
    exact encode_selects_row i

/-! ### The pseudo-operations (R90) -/

namespace Machine

/-- A sample in range is taken as it is (R88). -/
theorem asmSample_of_le {n : Nat} (h : n ≤ 1023) : asmSample n = some (BitVec.ofNat 10 n) := if_pos h

/-- A pin level in range is taken as it is (R88). -/
theorem asmLevel_of_le {n : Nat} (h : n ≤ 1) : asmLevel n = some (decide (n = 1)) := by
  rw [asmLevel, if_pos h, beq_eq_decide]

/-- Settles O51: with the operands accepted, each expansion is what `AsmLine.expand` writes out. -/
theorem pseudoOperationsExpandAsListed : Obligations.PseudoOperationsExpandAsListed := by
  refine ⟨fun m l hm hl => ?iter, fun b l hb hl => ?iterd, fun n => rfl, fun n m l hm hl => ?iters⟩
  case iter | iters =>
    simp only [AsmLine.expand, asmSample_of_le hm, asmSample_of_le hl, Option.bind_some, Option.map_some, iteration]
  case iterd =>
    simp only [AsmLine.expand, asmLevel_of_le hb, asmSample_of_le hl, Option.bind_some, Option.map_some, iteration]

end Machine
end Sys2Proof
end

section
/-! The family 40_tick_counters: NOP, TICK and RSTCNT, each as the one state it completes with. -/

namespace Sys2Proof.Machine

/-! ### The counters after a tick -/

/-- The stored TC is the saturating increment of R110 (a): the ceiling is below `2 ^ 27`, so nothing is truncated
(R116). -/
theorem State.advanceCounters_tc_toNat {s : State} (ok : s.cfg.ok = true) :
    s.advanceCounters.tc.toNat = satInc s.tc.toNat s.cfg.tickCeil := by
  have fits : satInc s.tc.toNat s.cfg.tickCeil < 2 ^ 27 := by
    rcases satInc_cases s.tc.toNat s.cfg.tickCeil with ⟨below, inc⟩ | ⟨-, stays⟩
    · have ceil := (Config.facts ok).tickCeil_le
      omega
    · rw [stays]
      exact s.tc.isLt
  rw [State.advanceCounters_tc, BitVec.toNat_ofNat, Nat.mod_eq_of_lt fits]

/-- The stored MS is the ring increment of R110 (b), under every configuration: the ring is the width of MS (R117). -/
theorem State.advanceCounters_ms_toNat (s : State) : s.advanceCounters.ms.toNat = (s.ms.toNat + 1) % 1024 := by
  rw [State.advanceCounters_ms, BitVec.toNat_ofNat, Nat.mod_eq_of_lt (ringInc_lt _)]
  rfl

/-! ### The three operations -/

/-- TICK completes with the counters advanced and the two events emitted after them (R110). -/
theorem exec_tick_next {s : State} (ok : s.cfg.ok = true) :
    exec .tick s = .next ((s.advanceCounters.emit .tmrReload).emit .tickClr) := by
  rw [exec_tick, State.complete_of_ok ok]

/-- Settles O18: NOP is the completion of the state it finds, which the configuration check lets through. -/
theorem nopChangesNothing : Obligations.NopChangesNothing := by
  refine ⟨rfl, fun s ok => ?_⟩
  rw [exec_nop, State.complete_of_ok ok]

/-- Settles O19: the counters are those of `advanceCounters`, which emitting leaves alone; the frame is that of
`exec_tick_frame`. -/
theorem tickAdvancesBothCounters : Obligations.TickAdvancesBothCounters := by
  refine ⟨rfl, fun s ok => ⟨_, exec_tick_next ok, ?tickCount, ?millis, ?events, exec_tick_frame (exec_tick_next ok)⟩⟩
  case tickCount =>
    rw [State.emit_tc, State.emit_tc, State.advanceCounters_tc_toNat ok, satInc]
  case millis =>
    rw [State.emit_ms, State.emit_ms, State.advanceCounters_ms_toNat]
  case events =>
    simp

/-- Settles O20: RSTCNT is the completion of `do_rstcnt`, whose one update is `State.doRstcnt_eq`. -/
theorem rstcntZeroesTickCount : Obligations.RstcntZeroesTickCount := by
  refine ⟨rfl, fun s ok => ?_⟩
  rw [exec_rstcnt, State.complete_of_ok ok, State.doRstcnt_eq]

end Sys2Proof.Machine
end

section
/-! The family 42_motion_idle: the motion step in its three cases, and the two commands that run it. -/

namespace Sys2Proof.Machine

/-! ### The epoch a check leaves -/

/-- A check under EVERY_ITER keeps the epoch (R143). -/
theorem State.checkedEpoch_of_everyIter {s : State} (policy : s.cfg.motionPolicy = .everyIter) :
    s.checkedEpoch = s.mep := by
  simp only [State.checkedEpoch, policy]

/-- A check under RATE128 leaves the number of its window (R144). -/
theorem State.checkedEpoch_toNat_of_rate128 {s : State} (policy : s.cfg.motionPolicy = .rate128) :
    s.checkedEpoch.toNat = s.ms.toNat / 128 := by
  simp only [State.checkedEpoch, policy, State.window_toNat]

/-! ### The three cases of a motion step (R140 to R144) -/

/-- With the gate shut nothing happens: the epoch is the window already, and no change is honoured (R142, R144). -/
theorem State.motionEffect_of_shut {s : State} (shut : s.GateShut) (cur : Bool) : s.MotionEffect cur s where
  shut _ := rfl
  mov opened := absurd shut opened
  epochEvery _ := rfl
  epochRate _ := shut.2.symm
  honoured honoured := absurd shut honoured.1
  notHonoured _ := ⟨rfl, rfl, rfl⟩
  frame := rfl

/-- With the gate open and the change not honoured, the check is noted and that is all (R141, R144). -/
theorem State.motionEffect_of_noted {s : State} {cur : Bool} (opened : ¬ s.GateShut) (refused : ¬ s.HonouredAt cur) :
    s.MotionEffect cur { s with mep := s.checkedEpoch, mov := cur } where
  shut shut := absurd shut opened
  mov _ := rfl
  epochEvery := State.checkedEpoch_of_everyIter
  epochRate := State.checkedEpoch_toNat_of_rate128
  honoured honoured := absurd honoured refused
  notHonoured _ := ⟨rfl, rfl, rfl⟩
  frame := rfl

/-- An honoured change is noted, remembered in PREV, and performs `do_rstcnt` (R142); its gate is open. -/
theorem State.motionEffect_of_honoured {s : State} {cur : Bool} (honoured : s.HonouredAt cur) :
    s.MotionEffect cur
      { s with
        mep := s.checkedEpoch, mov := cur, tc := 0, prev := cur
        events := s.events ++ [.tmrReload, .tickClr] } where
  shut shut := absurd shut honoured.1
  mov _ := rfl
  epochEvery := State.checkedEpoch_of_everyIter
  epochRate := State.checkedEpoch_toNat_of_rate128
  honoured _ := ⟨rfl, rfl, rfl⟩
  notHonoured refused := absurd honoured refused
  frame := rfl

/-- The motion step has the effect that R140 to R144 describe, in each case of `State.motionStep_cases`. -/
theorem State.motionStep_effect (s : State) (cur : Bool) : s.MotionEffect cur (s.motionStep cur) := by
  rcases s.motionStep_cases cur with ⟨shut, same⟩ | ⟨opened, refused, noted⟩ | ⟨-, honoured, zeroed⟩
  · rw [same]
    exact State.motionEffect_of_shut (s.gateOpen_eq_false.mp shut) cur
  · rw [noted]
    have gateOpen : ¬ s.GateShut := by simp [← s.gateOpen_eq_false, opened]
    have notHonoured : ¬ s.HonouredAt cur := by simp [← s.honours_iff, refused]
    exact State.motionEffect_of_noted gateOpen notHonoured
  · rw [zeroed]
    exact State.motionEffect_of_honoured ((s.honours_iff cur).mp honoured)

/-! ### The two commands -/

/-- A motion command completes with the effect of its classification, whichever command it is (R145, R146). -/
theorem exec_motion_effect {i : Instr} {s : State} {cur : Bool} (ok : s.cfg.ok = true)
    (h : motionClass s.cfg i = some cur) : ∃ t, exec i s = .next t ∧ s.MotionEffect cur t := by
  refine ⟨s.motionStep cur, ?_, s.motionStep_effect cur⟩
  rw [exec_motion h, State.complete_of_ok ok]

/-- Settles O25: MOTA is the motion command that classifies its sample by `MOTION_TH`. -/
theorem motaRunsTheMotionStep : Obligations.MotaRunsTheMotionStep :=
  fun _ raw ok => ⟨encode_toNat (.mota raw), exec_motion_effect ok rfl⟩

/-- Settles O26: MOTD is the motion command whose classification is the pin level. -/
theorem motdRunsTheMotionStep : Obligations.MotdRunsTheMotionStep :=
  fun _ lvl ok => ⟨encode_toNat (.motd lvl), exec_motion_effect ok rfl⟩

end Sys2Proof.Machine
end

section
/-! The family 43_ambient_filter: the range of the moving average, the loading of the filter, and the two commands that
load it. -/

namespace Sys2Proof.Machine

/-! ### The range of the moving average (R164) -/

/-- What the moving average keeps of the accumulator grows with it: over a rise of `d` the share `/ p` rises by `d` at
most. -/
theorem sub_div_mono {p a b : Nat} (hp : 0 < p) (h : a ≤ b) : a - a / p ≤ b - b / p := by
  obtain ⟨d, rfl⟩ := Nat.exists_eq_add_of_le h
  have rise : (a + d) / p ≤ a / p + d :=
    calc (a + d) / p ≤ (a + p * d) / p := Nat.div_le_div_right (Nat.add_le_add_left (Nat.le_mul_of_pos_left d hp) a)
      _ = a / p + d := Nat.add_mul_div_left a d hp
  omega

/-- No step of the moving average exceeds a common bound of the accumulator and the sample. -/
theorem emaNext_le (k : Nat) {acc s m : Nat} (hacc : acc ≤ m) (hs : s ≤ m) : emaNext k acc s ≤ m := by
  have kept : acc - acc / 2 ^ k ≤ m - m / 2 ^ k := sub_div_mono (Nat.two_pow_pos k) hacc
  have added : s / 2 ^ k ≤ m / 2 ^ k := Nat.div_le_div_right hs
  have share : m / 2 ^ k ≤ m := Nat.div_le_self m _
  rw [emaNext_eq]
  omega

/-- From a 10-bit accumulator and a sample the moving average fits the width of ACC, whatever the shift. -/
theorem emaNext_lt (k : Nat) (acc : BitVec 10) (raw : Sample) : emaNext k acc.toNat raw.toNat < 2 ^ 10 :=
  Nat.lt_of_le_pred (by decide) (emaNext_le k (Nat.le_pred_of_lt acc.isLt) (Nat.le_pred_of_lt raw.isLt))

/-! ### The latch (R166) -/

/-- A dark latch turns bright only above the high threshold. -/
theorem classify_eq_false_of_dark {c : Config} {dark : Bool} (h : dark = true) (a : Nat) :
    classify c dark a = false ↔ c.thHi < a := by
  subst h
  rcases classify_cases c true a with ⟨-, above, flips⟩ | ⟨-, below, holds⟩ | ⟨⟨⟩, -⟩ | ⟨⟨⟩, -⟩
  · simp [flips, above]
  · simp [holds, below]

/-- A bright latch turns dark only at or below the low threshold. -/
theorem classify_eq_true_of_bright {c : Config} {dark : Bool} (h : dark = false) (a : Nat) :
    classify c dark a = true ↔ a ≤ c.thLo := by
  subst h
  rcases classify_cases c false a with ⟨⟨⟩, -⟩ | ⟨⟨⟩, -⟩ | ⟨-, below, flips⟩ | ⟨-, above, holds⟩
  · simp [flips, below]
  · simp [holds, above]

/-! ### The loading of the filter -/

/-- Loading a value that fits ACC stores that value. -/
theorem State.loadFilter_acc_toNat (s : State) {a : Nat} (fits : a < 2 ^ 10) : (s.loadFilter a).acc.toNat = a := by
  rw [State.loadFilter_acc, BitVec.toNat_ofNat, Nat.mod_eq_of_lt fits]

/-- Loading the filter writes nothing but ACC and DARK (R160, R161). -/
theorem State.loadFilter_frame (s : State) (a : Nat) : { s.loadFilter a with acc := s.acc, dark := s.dark } = s := rfl

/-! ### The two commands -/

/-- The sampling gate is open exactly with SPC at 0 (R160). -/
theorem State.sampling_iff (s : State) : s.sampling = true ↔ s.spc = 0 := beq_iff_eq

/-- With the gate shut AMB completes in the state it finds (R160). -/
theorem exec_amb_of_not_sampling {s : State} (ok : s.cfg.ok = true) (shut : s.spc ≠ 0) (raw : Sample) :
    exec (.amb raw) s = .next s := by
  rw [exec_amb, if_neg (mt s.sampling_iff.mp shut), State.complete_of_ok ok]

/-- With the gate open AMB loads the moving average (R160, R162). -/
theorem exec_amb_of_sampling {s : State} (ok : s.cfg.ok = true) (opened : s.spc = 0) (raw : Sample) :
    exec (.amb raw) s = .next (s.loadFilter (emaNext s.cfg.emaK s.acc.toNat raw.toNat)) := by
  rw [exec_amb, if_pos (s.sampling_iff.mpr opened), State.complete_of_ok ok]

/-- SEED loads the reading, whatever SPC is (R161). -/
theorem exec_seed_next {s : State} (ok : s.cfg.ok = true) (raw : Sample) :
    exec (.seed raw) s = .next (s.loadFilter raw.toNat) := by
  rw [exec_seed, State.complete_of_ok ok]

/-- Settles O34: with the gate open, the moving average fits ACC, so that what is stored is what the latch compares. -/
theorem ambUpdatesTheFilterWhenSampling : Obligations.AmbUpdatesTheFilterWhenSampling := by
  intro s raw ok
  refine ⟨encode_toNat (.amb raw), fun shut => exec_amb_of_not_sampling ok shut raw, fun opened => ?_⟩
  have stored := s.loadFilter_acc_toNat (emaNext_lt s.cfg.emaK s.acc raw)
  refine ⟨_, exec_amb_of_sampling ok opened raw, ?average, ?brightens, ?darkens, s.loadFilter_frame _⟩
  case average =>
    rw [stored, emaNext_eq]
  case brightens =>
    intro dark
    rw [stored]
    exact classify_eq_false_of_dark dark _
  case darkens =>
    intro bright
    rw [stored]
    exact classify_eq_true_of_bright bright _

/-- Settles O35: SEED loads the reading itself, which has the width of ACC. -/
theorem seedLoadsTheAccumulator : Obligations.SeedLoadsTheAccumulator := by
  intro s raw ok
  refine ⟨encode_toNat (.seed raw), _, exec_seed_next ok raw, ?reading, fun dark => classify_eq_false_of_dark dark _,
    fun bright => classify_eq_true_of_bright bright _, s.loadFilter_frame _⟩
  case reading =>
    rw [State.loadFilter_acc, BitVec.ofNat_toNat, BitVec.setWidth_eq]

end Sys2Proof.Machine
end

section
/-! The family 44_lamp_duty: the registers as they store the lamp constants and the PWM counter, and DUTY in its two
cases. -/

namespace Sys2Proof.Machine

/-! ### What the registers store -/

/-- A choice between two legal duty constants is stored whole in a duty register (R192). -/
theorem toNat_ofNat_duty {p : Prop} [Decidable p] {x y : Nat} (hx : x ≤ 124) (hy : y ≤ 124) :
    (BitVec.ofNat 8 (if p then x else y)).toNat = if p then x else y := by
  have fits : (if p then x else y) < 2 ^ 8 := by split <;> omega
  rw [BitVec.toNat_ofNat, Nat.mod_eq_of_lt fits]

/-- The stored headlight duty is the constant R182 selects. -/
theorem State.headDuty_toNat {s : State} (ok : s.cfg.ok = true) :
    s.headDuty.toNat = if s.dark then s.cfg.headDark else s.cfg.headBright :=
  toNat_ofNat_duty (Config.facts ok).headDark_le (Config.facts ok).headBright_le

/-- `in_flash` is the union of the two windows of R184. -/
theorem inFlash_iff (c : Config) (m : Nat) :
    inFlash c m = true ↔ m < c.tailD ∨ (c.tailP ≤ m ∧ m < c.tailP + c.tailD) := by
  simp only [inFlash, Bool.or_eq_true, Bool.and_eq_true, decide_eq_true_eq]

/-- The stored tail duty is the constant R183 selects: the flash in the two windows, else the dim value. -/
theorem State.tailDuty_toNat {s : State} (ok : s.cfg.ok = true) :
    s.tailDuty.toNat =
      if s.ms.toNat < s.cfg.tailD ∨ (s.cfg.tailP ≤ s.ms.toNat ∧ s.ms.toNat < s.cfg.tailP + s.cfg.tailD)
        then s.cfg.tailFlash else s.cfg.tailDim := by
  simp only [← inFlash_iff]
  exact toNat_ofNat_duty (Config.facts ok).tailFlash_le (Config.facts ok).tailDim_le

/-- In mode HW the stored meter duty is the constant R186 selects. -/
theorem State.meterDuty_toNat_of_hw {s : State} (ok : s.cfg.ok = true) (mode : s.cfg.meterMode = .hw) :
    s.meterDuty.toNat = if s.dark then s.cfg.meterDark else s.cfg.meterBright := by
  simp only [State.meterDuty, mode]
  exact toNat_ofNat_duty (Config.facts ok).meterDark_le (Config.facts ok).meterBright_le

/-- In mode SW the meter has no duty of its own (R187). -/
theorem State.meterDuty_of_sw {s : State} (mode : s.cfg.meterMode = .sw) : s.meterDuty = 0 := by
  simp only [State.meterDuty, mode]

/-- In mode HW the auxiliary pin stays low (R186). -/
theorem State.auxPin_of_hw {s : State} (mode : s.cfg.meterMode = .hw) : s.auxPin = false := by
  simp only [State.auxPin, mode]

/-- In mode SW the auxiliary pin is high in the dark while the counter is below its duty (R188). -/
theorem State.auxPin_iff_of_sw {s : State} (mode : s.cfg.meterMode = .sw) :
    s.auxPin = true ↔ s.dark = true ∧ s.spc.toNat < s.cfg.swDuty := by
  simp only [State.auxPin, mode, State.pwmHigh, Bool.and_eq_true, decide_eq_true_eq]

/-- The stored SPC is the period increment of R189: the period fits 8 bits, so nothing is truncated. -/
theorem State.advancePwm_spc_toNat {s : State} (ok : s.cfg.ok = true) :
    s.advancePwm.spc.toNat = perInc s.spc.toNat s.cfg.swPeriod := by
  have fits : perInc s.spc.toNat s.cfg.swPeriod < 2 ^ 8 := by
    rcases perInc_cases s.spc.toNat s.cfg.swPeriod with ⟨-, wraps⟩ | ⟨below, inc⟩
    · omega
    · have period := (Config.facts ok).swPeriod_le
      omega
  rw [State.advancePwm_spc, BitVec.toNat_ofNat, Nat.mod_eq_of_lt fits]

/-! ### The two cases of DUTY -/

/-- The idle condition of the definition is the comparison of R147. -/
theorem State.isIdle_iff (s : State) : s.isIdle = true ↔ s.cfg.idleTh < s.tc.toNat := decide_eq_true_iff

/-- Past the threshold DUTY turns the outputs off and advances the counter (R181, R189). -/
theorem exec_duty_of_idle {s : State} (ok : s.cfg.ok = true) (idle : s.cfg.idleTh < s.tc.toNat) :
    exec .duty s = .next s.lampsOff.advancePwm := by
  rw [exec_duty, if_pos (s.isIdle_iff.mpr idle), State.complete_of_ok ok]

/-- Up to the threshold DUTY looks the outputs up and advances the counter (R180, R189). -/
theorem exec_duty_of_not_idle {s : State} (ok : s.cfg.ok = true) (awake : s.tc.toNat ≤ s.cfg.idleTh) :
    exec .duty s = .next s.lampsOn.advancePwm := by
  rw [exec_duty, if_neg (mt s.isIdle_iff.mp (Nat.not_lt.mpr awake)), State.complete_of_ok ok]

/-- Settles O41: TC is past the threshold or not, and each case is one state; the counter advances from the same SPC
in both. -/
theorem dutyDecidesIdlenessAndLooksUpTheLamps : Obligations.DutyDecidesIdlenessAndLooksUpTheLamps := by
  refine ⟨rfl, fun s ok => ?_⟩
  rcases Nat.lt_or_ge s.cfg.idleTh s.tc.toNat with idle | awake
  · have counter := State.advancePwm_spc_toNat (s := s.lampsOff) ok
    exact ⟨_, exec_duty_of_idle ok idle, fun _ => ⟨rfl, rfl, rfl, rfl, rfl, rfl⟩,
      fun awake => absurd idle (Nat.not_lt.mpr awake), counter, rfl⟩
  · have counter := State.advancePwm_spc_toNat (s := s.lampsOn) ok
    refine ⟨_, exec_duty_of_not_idle ok awake, fun idle => absurd idle (Nat.not_lt.mpr awake),
      fun _ => ⟨rfl, rfl, State.headDuty_toNat ok, State.tailDuty_toNat ok, fun hw => ?hw, fun sw => ?sw⟩, counter, rfl⟩
    case hw => exact ⟨State.meterDuty_toNat_of_hw ok hw, State.auxPin_of_hw hw⟩
    case sw => exact ⟨State.meterDuty_of_sw sw, State.auxPin_iff_of_sw sw⟩

end Sys2Proof.Machine
end

section
/-! The family 45_iteration: the two-state machine on PREV, its table read off the effect of a motion step. -/

namespace Sys2Proof.Machine

/-- A completed motion command had the effect of its classification. -/
theorem exec_motion_next {i : Instr} {s t : State} {cur : Bool} (hm : motionClass s.cfg i = some cur)
    (h : exec i s = .next t) : s.MotionEffect cur t := by
  rw [exec_motion hm] at h
  obtain ⟨-, rfl⟩ := State.complete_next h
  exact s.motionStep_effect cur

/-! ### The rows of the table of R203, by what keeps a change from being honoured -/

section Rows

variable {s t : State} {cur : Bool} (effect : s.MotionEffect cur t)
include effect

/-- The rows where the classification is PREV already, whatever TC is. -/
theorem State.MotionEffect.of_same (same : s.prev = cur) : t.prev = cur ∧ t.tc = s.tc ∧ t.events = s.events := by
  obtain ⟨tc, prev, events⟩ := effect.notHonoured fun ⟨_, _, differs⟩ => differs same.symm
  exact ⟨prev.trans same, tc, events⟩

/-- The rows where TC is not past the settle threshold. -/
theorem State.MotionEffect.of_unsettled (unsettled : s.tc.toNat ≤ s.cfg.settleTh) :
    t.prev = s.prev ∧ t.tc = s.tc ∧ t.events = s.events := by
  obtain ⟨tc, prev, events⟩ := effect.notHonoured fun ⟨_, settled, _⟩ => Nat.not_lt.mpr unsettled settled
  exact ⟨prev, tc, events⟩

/-- The rows of an honoured change: the gate open, PREV different, and TC past the settle threshold. -/
theorem State.MotionEffect.of_settled_change (opened : ¬ s.GateShut) (differs : s.prev ≠ cur)
    (settled : s.cfg.settleTh < s.tc.toNat) :
    t.prev = cur ∧ t.tc = 0 ∧ t.events = s.events ++ [.tmrReload, .tickClr] := by
  obtain ⟨tc, prev, events⟩ := effect.honoured ⟨opened, settled, differs.symm⟩
  exact ⟨prev, tc, events⟩

end Rows

/-- Settles O27: the effect of the motion step, with the rows grouped by whether PREV is the classification and whether
TC is past the settle threshold. -/
theorem motionTransitionsAreTheTable : Obligations.MotionTransitionsAreTheTable := by
  intro i cur s t hm h
  have effect : s.MotionEffect cur t := exec_motion_next hm h
  refine ⟨effect.shut, effect.mov, ?same, ?unsettled, effect.of_settled_change⟩
  case same => exact fun _ same => effect.of_same same
  case unsettled => exact fun _ _ unsettled => effect.of_unsettled unsettled

end Sys2Proof.Machine
end

section
/-! The family 60_exceptions: every operation and every edge completes, and what an edge can do to FAULT and FCAUSE. -/

namespace Sys2Proof.Machine

/-! ### Completion (R210) -/

/-- Settles O5: every operation, and every edge from its start, is the common completion of some state, and that
answers under a well-formed configuration. -/
theorem everyOperationAndEdgeCompletes : Obligations.EveryOperationAndEdgeCompletes := by
  intro s ok
  have edge : ∃ t, step s = .next t := by
    obtain ⟨t, completes, -⟩ := step_completes s
    have begun : s.beginEdge.cfg.ok = true := ok
    exact ⟨t, completes.trans (State.complete_of_ok begun t)⟩
  have operation (i : Instr) : ∃ t, exec i s = .next t := by
    obtain ⟨t, completes, -⟩ := exec_completes i s
    exact ⟨t, completes.trans (State.complete_of_ok ok t)⟩
  exact ⟨edge, operation⟩

/-! ### What an illegal word does (R211, R212) -/

/-- An illegal word is accepted by raising the fault of its cause. -/
theorem State.accept_of_illegal {w : Word} {why : Illegal} (illegal : decode w = .illegal why) (s : State) :
    s.accept w = s.complete (s.raiseFault why.code) := by
  rw [State.accept, illegal]

/-- The edge at which an illegal word is presented: the fault is raised, its input taken and its events none. -/
theorem step_of_illegal {s : State} {w : Word} {rest : List PortInput} {why : Illegal} (ok : s.cfg.ok = true)
    (listed : s.inputs = PortInput.command w :: rest) (illegal : decode w = .illegal why) :
    step s = .next
      { s with fault := true, fcause := if s.fault then s.fcause else why.code, events := [], inputs := rest } := by
  have begun : s.beginEdge.cfg.ok = true := ok
  calc step s = s.beginEdge.accept w := by rw [step_eq, State.portInput_cons listed]; rfl
    _ = .next (s.beginEdge.raiseFault why.code) := by rw [State.accept_of_illegal illegal, State.complete_of_ok begun]
    _ = _ := by rw [State.beginEdge_cons listed]; rfl

/-- Bits that must be 0 and are not, under a legal operation code, make a word illegal for the cause 2: in RSV, in the
operand field of an operation without operand, or in OPD[9:1] of MOTD (R84). -/
theorem decode_of_nonzero_bits {w : Word} {opc rsv opd : Nat} (hopc : opc = w.toNat / 4096)
    (hrsv : rsv = w.toNat / 1024 % 4) (hopd : opd = w.toNat % 1024) (legal : opc < 8)
    (nonzero : rsv ≠ 0 ∨ ((opc = 0 ∨ opc = 1 ∨ opc = 2 ∨ opc = 7) ∧ opd ≠ 0) ∨ (opc = 4 ∧ opd / 2 ≠ 0)) :
    decode w = .illegal .reserved := by
  obtain ⟨-, reserved, operandless, pinLevel, -⟩ := decoderFollowsTheChecksInOrder w opc rsv opd hopc hrsv hopd
  by_cases clear : rsv = 0
  · rcases nonzero with set | ⟨code, set⟩ | ⟨code, set⟩
    · exact absurd clear set
    · exact operandless legal clear code set
    · exact pinLevel clear code set
  · exact reserved legal clear

/-! ### What an edge can do to FAULT and FCAUSE -/

/-- An accepted word leaves FAULT and FCAUSE alone, or is illegal and raises the fault of its cause. -/
theorem State.accept_fault_cases {s t : State} {w : Word} (h : s.accept w = .next t) :
    (t.fault = s.fault ∧ t.fcause = s.fcause) ∨ ∃ why, decode w = .illegal why ∧ t = s.raiseFault why.code := by
  cases decoded : decode w with
  | op i =>
    rw [State.accept, decoded] at h
    obtain ⟨-, -, -, fault, fcause⟩ := exec_next h
    exact .inl ⟨fault, fcause⟩
  | illegal why =>
    rw [State.accept_of_illegal decoded] at h
    obtain ⟨-, rfl⟩ := State.complete_next h
    exact .inr ⟨why, rfl, rfl⟩

/-- All that an edge can do to FAULT and FCAUSE: reset clears both; without it both are kept, or a valid illegal word
raises the fault of its cause. -/
theorem step_fault_cases {s t : State} (h : step s = .next t) :
    (s.portInput.rst = true ∧ t.fault = false ∧ t.fcause = 0) ∨
      (s.portInput.rst = false ∧ t.fault = s.fault ∧ t.fcause = s.fcause) ∨
      (s.portInput.rst = false ∧ s.portInput.cmdValid = true ∧
        ∃ why, decode s.portInput.cmd = .illegal why ∧ t = s.beginEdge.raiseFault why.code) := by
  rw [step_eq, State.edgeWith] at h
  split at h
  next reset =>
    obtain ⟨-, rfl⟩ := State.complete_next h
    exact .inl ⟨reset, rfl, rfl⟩
  next noReset =>
    have noReset : s.portInput.rst = false := Bool.eq_false_of_not_eq_true noReset
    split at h
    next valid =>
      rcases State.accept_fault_cases h with kept | raised
      · exact .inr (.inl ⟨noReset, kept⟩)
      · exact .inr (.inr ⟨noReset, valid, raised⟩)
    next =>
      obtain ⟨-, rfl⟩ := State.complete_next h
      exact .inr (.inl ⟨noReset, rfl, rfl⟩)

/-- The causes of R212 are coded 1 and 2. -/
theorem illegal_code_cases (why : Illegal) : why.code = 1 ∨ why.code = 2 := by
  cases why
  · exact .inl rfl
  · exact .inr rfl

/-- FCAUSE names a cause whenever FAULT is 1 (R212). -/
abbrev State.FaultHasCause (s : State) : Prop := s.fault = true → s.fcause = 1 ∨ s.fcause = 2

/-- Raising a fault leaves a cause: the one recorded by the first fault, or its own. -/
theorem State.raiseFault_hasCause {s : State} (cause : s.FaultHasCause) (why : Illegal) :
    (s.raiseFault why.code).FaultHasCause := by
  intro _
  rw [State.raiseFault_fcause]
  split
  next faulted => exact cause faulted
  next => exact illegal_code_cases why

/-- No edge leaves FAULT at 1 without a cause unless it found it so. -/
theorem step_keeps_faultHasCause {s t : State} (h : step s = .next t) (cause : s.FaultHasCause) : t.FaultHasCause := by
  rcases step_fault_cases h with ⟨-, cleared, -⟩ | ⟨-, fault, fcause⟩ | ⟨-, -, why, -, rfl⟩
  · intro faulted
    simp [cleared] at faulted
  · rw [State.FaultHasCause, fault, fcause]
    exact cause
  · exact State.raiseFault_hasCause (s := s.beginEdge) cause why

/-- Settles O15: the checks of the decoder decide the cause, the edge records it, and the causes are coded 1 and 2. -/
theorem illegalWordOnlyRecordsTheFault : Obligations.IllegalWordOnlyRecordsTheFault := by
  constructor
  · intro s w rest opc rsv opd ok listed hopc hrsv hopd
    constructor
    · intro reservedCode
      rw [hopc, ← opcField_toNat] at reservedCode
      exact step_of_illegal ok listed (decode_of_reserved_code reservedCode)
    · intro legal nonzero
      exact step_of_illegal ok listed (decode_of_nonzero_bits hopc hrsv hopd legal nonzero)
  · intro s t h before
    refine step_keeps_faultHasCause h fun faulted => before.resolve_left ?_
    simp [faulted]

end Sys2Proof.Machine
end

section
/-! The family other, first part: encoding and decoding undo each other (R84, R85), and the operands the assembler takes
(R88). -/

namespace Sys2Proof

/-! ### The round trip -/

/-- A word whose value is a legal code in OPC, 0 in RSV and a value in OPD reads the operand under that code. -/
theorem decode_of_toNat_eq {w : Word} {n : Nat} (legal : n < 8) (opd : BitVec 10)
    (value : w.toNat = 4096 * n + opd.toNat) : decode w = decodeOperand (BitVec.ofNat 4 n) opd := by
  have fits := opd.isLt
  have code : (opcField w).toNat = n := by rw [opcField_toNat]; omega
  have rsv : (rsvField w).toNat = 0 := by rw [rsvField_toNat]; omega
  have operand : opdField w = opd := by
    apply BitVec.eq_of_toNat_eq
    rw [opdField_toNat]
    omega
  rw [decode_of_code code legal rsv, operand]

/-- Decoding the word of an operation gives the operation back. The words without a sample are written out; the others
have the code of their operation over the sample. -/
theorem decode_encode (i : Instr) : decode (encode i) = .op i := by
  cases i with
  | nop => rfl
  | tick => rfl
  | rstcnt => rfl
  | mota raw => exact decode_of_toNat_eq (n := 3) (by decide) raw (encode_toNat (.mota raw))
  | motd lvl => cases lvl <;> rfl
  | amb raw => exact decode_of_toNat_eq (n := 5) (by decide) raw (encode_toNat (.amb raw))
  | seed raw => exact decode_of_toNat_eq (n := 6) (by decide) raw (encode_toNat (.seed raw))
  | duty => rfl

/-- Settles O12: the typed operands are all well formed, and the round trip is `decode_encode`. -/
theorem decodeUndoesEncode : Obligations.DecodeUndoesEncode :=
  fun i => ⟨i.wellFormed_all, decode_encode i⟩

/-- Settles O13: the checks of the decoder leave no bit of a legal word open, as `encode_of_decode` shows. -/
theorem encodeUndoesDecode : Obligations.EncodeUndoesDecode :=
  fun _ _ decoded => encode_of_decode decoded

/-- An illegal word is the word of no operation. -/
theorem encode_ne_of_illegal {w : Word} {why : Illegal} (illegal : decode w = .illegal why) (i : Instr) :
    encode i ≠ w := by
  rintro rfl
  rw [decode_encode] at illegal
  cases illegal

/-! ### Words written out -/

/-- Settles O9: the plain words are the definition's, the others have the values of `encode_toNat`. -/
theorem encodingsAreTheTableWords : Obligations.EncodingsAreTheTableWords :=
  ⟨rfl, rfl, rfl, rfl, fun raw => encode_toNat (.mota raw), fun lvl => encode_toNat (.motd lvl),
    fun raw => encode_toNat (.amb raw), fun raw => encode_toNat (.seed raw)⟩

/-- Settles O10: nine closed words, each decoded. -/
theorem writtenWordsDecodeAsListed : Obligations.WrittenWordsDecodeAsListed := by
  unfold Obligations.WrittenWordsDecodeAsListed
  decide

/-- What the decoder reads from a table word of 16 bits is what the word at the command port decodes to. -/
theorem decode_of_decodeTableWord {w : Nat} {i : Instr} (h : decodeTableWord 16 w = some i) :
    decode (commandWord 16 w) = .op i := by
  rw [decodeTableWord, if_neg (by decide)] at h
  split at h
  next decoded =>
    cases h
    exact decoded
  next => cases h

/-! ### The operand ranges of the assembler -/

namespace Machine

/-- A sample operand is accepted exactly in the range of its field (R88). -/
theorem asmSample_isSome (n : Nat) : (asmSample n).isSome = true ↔ n ≤ 1023 := by
  rw [asmSample, sampleMax]
  split <;> simp [*]

/-- A pin level is accepted exactly if it is 0 or 1 (R88). -/
theorem asmLevel_isSome (n : Nat) : (asmLevel n).isSome = true ↔ n ≤ 1 := by
  rw [asmLevel]
  split <;> simp [*]

/-- Settles O52: a line with one operand is accepted exactly if its operand is. -/
theorem assemblerAcceptsExactlyTheOperandRanges : Obligations.AssemblerAcceptsExactlyTheOperandRanges := by
  intro n
  simp only [AsmLine.expand, Option.isSome_map, asmSample_isSome, asmLevel_isSome, and_self]

end Machine
end Sys2Proof
end

section
/-! The family other, second part: all that an operation can do, as one relation, and what it says of each register. -/

namespace Sys2Proof.Machine

/-! ### All that an operation can do -/

/-- What an operation does to the state `s`, one constructor for each case of the spec: every result is a plain update
of `s`. `exec_of_does` and `does_of_exec` tie the relation to `exec`. -/
inductive State.Does (s : State) : Instr → State → Prop
  | nop : s.Does .nop s
  | tick : s.Does .tick ((s.advanceCounters.emit .tmrReload).emit .tickClr)
  | rstcnt : s.Does .rstcnt s.doRstcnt
  /-- A motion command with the gate shut. -/
  | motionShut {i cur} (reads : motionClass s.cfg i = some cur) (shut : s.GateShut) : s.Does i s
  /-- A motion command whose reading is noted and not honoured. -/
  | motionNoted {i cur} (reads : motionClass s.cfg i = some cur) (opened : ¬ s.GateShut)
      (refused : ¬ s.HonouredAt cur) : s.Does i { s with mep := s.checkedEpoch, mov := cur }
  /-- A motion command that honours a change. -/
  | motionHonoured {i cur} (reads : motionClass s.cfg i = some cur) (honoured : s.HonouredAt cur) :
      s.Does i { s with mep := s.checkedEpoch, mov := cur, tc := 0, prev := cur
                        events := s.events ++ [.tmrReload, .tickClr] }
  /-- AMB with the sampling gate shut. -/
  | ambShut {raw} (shut : s.spc ≠ 0) : s.Does (.amb raw) s
  /-- AMB with the sampling gate open. -/
  | ambOpen {raw} (opened : s.spc = 0) :
      s.Does (.amb raw) (s.loadFilter (emaNext s.cfg.emaK s.acc.toNat raw.toNat))
  | seed {raw} : s.Does (.seed raw) (s.loadFilter raw.toNat)
  /-- DUTY past the idle threshold. -/
  | dutyIdle (idle : s.cfg.idleTh < s.tc.toNat) : s.Does .duty s.lampsOff.advancePwm
  /-- DUTY up to the idle threshold. -/
  | dutyAwake (awake : s.tc.toNat ≤ s.cfg.idleTh) : s.Does .duty s.lampsOn.advancePwm

/-- Every operation does something in every state. -/
theorem State.exists_does (s : State) (i : Instr) : ∃ t, s.Does i t := by
  have motion {i : Instr} {cur : Bool} (reads : motionClass s.cfg i = some cur) : ∃ t, s.Does i t := by
    by_cases shut : s.GateShut
    · exact ⟨_, .motionShut reads shut⟩
    · by_cases honoured : s.HonouredAt cur
      · exact ⟨_, .motionHonoured reads honoured⟩
      · exact ⟨_, .motionNoted reads shut honoured⟩
  cases i with
  | nop => exact ⟨_, .nop⟩
  | tick => exact ⟨_, .tick⟩
  | rstcnt => exact ⟨_, .rstcnt⟩
  | mota raw => exact motion rfl
  | motd lvl => exact motion rfl
  | amb raw =>
    by_cases sampling : s.spc = 0
    · exact ⟨_, .ambOpen sampling⟩
    · exact ⟨_, .ambShut sampling⟩
  | seed raw => exact ⟨_, .seed⟩
  | duty =>
    rcases Nat.lt_or_ge s.cfg.idleTh s.tc.toNat with idle | awake
    · exact ⟨_, .dutyIdle idle⟩
    · exact ⟨_, .dutyAwake awake⟩

/-- With the gate open and the change not honoured, a motion step notes the check (R141, R144). -/
theorem State.motionStep_of_noted {s : State} {cur : Bool} (opened : ¬ s.GateShut) (refused : ¬ s.HonouredAt cur) :
    s.motionStep cur = { s with mep := s.checkedEpoch, mov := cur } := by
  rcases s.motionStep_cases cur with ⟨shut, -⟩ | ⟨-, -, noted⟩ | ⟨-, honoured, -⟩
  · exact absurd (s.gateOpen_eq_false.mp shut) opened
  · exact noted
  · exact absurd ((s.honours_iff cur).mp honoured) refused

/-- An honoured change is noted and remembered, and performs `do_rstcnt` (R142). -/
theorem State.motionStep_of_honoured {s : State} {cur : Bool} (honoured : s.HonouredAt cur) :
    s.motionStep cur =
      { s with
        mep := s.checkedEpoch, mov := cur, tc := 0, prev := cur
        events := s.events ++ [.tmrReload, .tickClr] } := by
  rcases s.motionStep_cases cur with ⟨shut, -⟩ | ⟨-, refused, -⟩ | ⟨-, -, zeroed⟩
  · exact absurd (s.gateOpen_eq_false.mp shut) honoured.1
  · simp [(s.honours_iff cur).mpr honoured] at refused
  · exact zeroed

/-- What the relation allows is what `exec` answers. -/
theorem exec_of_does {s t : State} {i : Instr} (ok : s.cfg.ok = true) (does : s.Does i t) : exec i s = .next t := by
  cases does with
  | nop => exact State.complete_of_ok ok _
  | tick => exact State.complete_of_ok ok _
  | rstcnt => exact State.complete_of_ok ok _
  | motionShut reads shut => rw [exec_motion reads, State.complete_of_ok ok, (s.motionStep_effect _).shut shut]
  | motionNoted reads opened refused =>
    rw [exec_motion reads, State.complete_of_ok ok, State.motionStep_of_noted opened refused]
  | motionHonoured reads honoured =>
    rw [exec_motion reads, State.complete_of_ok ok, State.motionStep_of_honoured honoured]
  | ambShut shut => exact exec_amb_of_not_sampling ok shut _
  | ambOpen opened => exact exec_amb_of_sampling ok opened _
  | seed => exact State.complete_of_ok ok _
  | dutyIdle idle => exact exec_duty_of_idle ok idle
  | dutyAwake awake => exact exec_duty_of_not_idle ok awake

/-- All that a completed operation can have done. -/
theorem does_of_exec {s t : State} {i : Instr} (h : exec i s = .next t) : s.Does i t := by
  obtain ⟨ok, -⟩ := exec_next h
  obtain ⟨u, does⟩ := s.exists_does i
  obtain rfl : t = u := Host.Outcome.next.inj (h.symm.trans (exec_of_does ok does))
  exact does

/-! ### The fault registers are read by no operation (R211) -/

/-- An operation does in a state with other fault registers what it does in the state, and keeps them. -/
theorem State.Does.with_fault {s t : State} {i : Instr} (does : s.Does i t) (fault : Bool) (fcause : BitVec 2) :
    State.Does { s with fault := fault, fcause := fcause } i { t with fault := fault, fcause := fcause } := by
  cases does with
  | nop => exact .nop
  | tick => exact .tick
  | rstcnt => exact .rstcnt
  | motionShut reads shut => exact .motionShut reads shut
  | motionNoted reads opened refused => exact .motionNoted reads opened refused
  | motionHonoured reads honoured => exact .motionHonoured reads honoured
  | ambShut shut => exact .ambShut shut
  | ambOpen opened => exact .ambOpen opened
  | seed => exact .seed
  | dutyIdle idle => exact .dutyIdle idle
  | dutyAwake awake => exact .dutyAwake awake

/-- Settles O16: nothing in the cases of an operation mentions FAULT or FCAUSE. -/
theorem faultChangesNoOperation : Obligations.FaultChangesNoOperation := by
  intro i s t fault fcause h
  obtain ⟨ok, -⟩ := exec_next h
  exact exec_of_does ok ((does_of_exec h).with_fault fault fcause)

/-! ### The registers an operation writes -/

section Registers

variable {i : Instr} {s t : State}

/-- TC: a tick advances it, `do_rstcnt` zeroes it, and everything else leaves it alone (R37, R110, R111). -/
inductive State.CountStep (s : State) (i : Instr) (t : State) : Prop
  | ticked : i = .tick → t.tc.toNat = satInc s.tc.toNat s.cfg.tickCeil → s.CountStep i t
  | reset : i ≠ .tick → s.ResetsCount i → t.tc = 0 → s.CountStep i t
  | kept : i ≠ .tick → ¬ s.ResetsCount i → t.tc = s.tc → s.CountStep i t

/-- A motion command is not TICK. -/
theorem ne_tick_of_motionClass {c : Config} {cur : Bool} (reads : motionClass c i = some cur) : i ≠ .tick := by
  rintro rfl
  cases reads

/-- TC moves by `CountStep` at every operation. -/
theorem exec_countStep (h : exec i s = .next t) : s.CountStep i t := by
  obtain ⟨ok, -⟩ := exec_next h
  have plain {i : Instr} {t : State} (noReading : motionClass s.cfg i = none) (notTick : i ≠ .tick)
      (notRstcnt : i ≠ .rstcnt) (same : t.tc = s.tc) : s.CountStep i t :=
    .kept notTick (mt (State.resetsCount_not_motion noReading).mp notRstcnt) same
  cases does_of_exec h with
  | nop => exact plain rfl nofun nofun rfl
  | tick => exact .ticked rfl (State.advanceCounters_tc_toNat ok)
  | rstcnt => exact .reset nofun (.inl rfl) rfl
  | motionShut reads shut =>
    exact .kept (ne_tick_of_motionClass reads) (fun resets => ((State.resetsCount_motion reads).mp resets).1 shut) rfl
  | motionNoted reads _ refused =>
    exact .kept (ne_tick_of_motionClass reads) (mt (State.resetsCount_motion reads).mp refused) rfl
  | motionHonoured reads honoured =>
    exact .reset (ne_tick_of_motionClass reads) ((State.resetsCount_motion reads).mpr honoured) rfl
  | ambShut => exact plain rfl nofun nofun rfl
  | ambOpen => exact plain rfl nofun nofun rfl
  | seed => exact plain rfl nofun nofun rfl
  | dutyIdle => exact plain rfl nofun nofun rfl
  | dutyAwake => exact plain rfl nofun nofun rfl

/-- TICK is the only operation outside the control context (R222). -/
theorem context_of_ne_tick (notTick : i ≠ .tick) : i.context = .control := by
  cases i with
  | tick => exact absurd rfl notTick
  | _ => rfl

/-- MS: a tick advances it in the ring, and nothing else writes it (R37, R110). -/
theorem exec_ms (h : exec i s = .next t) : t.ms.toNat = (s.ms.toNat + if i = .tick then 1 else 0) % 1024 := by
  have inRing : s.ms.toNat % 1024 = s.ms.toNat := Nat.mod_eq_of_lt s.ms.isLt
  by_cases tick : i = .tick
  · subst tick
    obtain ⟨ok, -⟩ := exec_next h
    obtain rfl := Host.Outcome.next.inj ((exec_tick_next ok).symm.trans h)
    exact s.advanceCounters_ms_toNat
  · rw [if_neg tick, Nat.add_zero, inRing, (exec_control_counters (context_of_ne_tick tick) h).1]

/-- PREV changes only by an honoured change, which needs TC past the settle threshold and zeroes it (R142). -/
theorem exec_prev_cases (h : exec i s = .next t) :
    t.prev = s.prev ∨ (s.cfg.settleTh < s.tc.toNat ∧ i ≠ .tick ∧ t.tc = 0) := by
  cases does_of_exec h with
  | motionHonoured reads honoured => exact .inr ⟨honoured.2.1, ne_tick_of_motionClass reads, rfl⟩
  | _ => exact .inl rfl

/-- With the gate shut no operation writes MOV, PREV or MEP (R144). -/
theorem exec_motion_registers_of_shut (shut : s.GateShut) (h : exec i s = .next t) :
    t.mov = s.mov ∧ t.prev = s.prev ∧ t.mep = s.mep := by
  cases does_of_exec h with
  | motionNoted _ opened => exact absurd shut opened
  | motionHonoured _ honoured => exact absurd shut honoured.1
  | _ => exact ⟨rfl, rfl, rfl⟩

/-- Under EVERY_ITER no operation changes MEP (R143). -/
theorem exec_mep_of_everyIter (policy : s.cfg.motionPolicy = .everyIter) (h : exec i s = .next t) : t.mep = s.mep := by
  cases does_of_exec h with
  | motionNoted => exact State.checkedEpoch_of_everyIter policy
  | motionHonoured => exact State.checkedEpoch_of_everyIter policy
  | _ => rfl

/-- The seven registers of DUTY are as they were (R28 to R34). -/
structure State.LampsKept (s t : State) : Prop where
  spc : t.spc = s.spc
  pwrEn : t.pwrEn = s.pwrEn
  idle : t.idle = s.idle
  head : t.dutyHead = s.dutyHead
  tail : t.dutyTail = s.dutyTail
  meter : t.dutyMeter = s.dutyMeter
  aux : t.aux = s.aux

/-- Every operation but DUTY leaves the seven registers alone. -/
theorem exec_lampsKept (notDuty : i ≠ .duty) (h : exec i s = .next t) : s.LampsKept t := by
  cases does_of_exec h with
  | dutyIdle => exact absurd rfl notDuty
  | dutyAwake => exact absurd rfl notDuty
  | _ => exact ⟨rfl, rfl, rfl, rfl, rfl, rfl, rfl⟩

/-- The two cases of a completed DUTY (R180). -/
theorem exec_duty_cases (h : exec .duty s = .next t) :
    (s.cfg.idleTh < s.tc.toNat ∧ t = s.lampsOff.advancePwm) ∨
      (s.tc.toNat ≤ s.cfg.idleTh ∧ t = s.lampsOn.advancePwm) := by
  cases does_of_exec h with
  | motionShut reads => cases reads
  | motionNoted reads => cases reads
  | motionHonoured reads => cases reads
  | dutyIdle idle => exact .inl ⟨idle, rfl⟩
  | dutyAwake awake => exact .inr ⟨awake, rfl⟩

/-- SPC: a DUTY advances it in its period, idle or not, and nothing else writes it (R189). -/
theorem exec_spc (h : exec i s = .next t) :
    t.spc.toNat = if i = .duty then perInc s.spc.toNat s.cfg.swPeriod else s.spc.toNat := by
  split
  next duty =>
    subst duty
    obtain ⟨ok, -⟩ := exec_next h
    rcases exec_duty_cases h with ⟨-, rfl⟩ | ⟨-, rfl⟩
    · exact State.advancePwm_spc_toNat (s := s.lampsOff) ok
    · exact State.advancePwm_spc_toNat (s := s.lampsOn) ok
  next notDuty => rw [(exec_lampsKept notDuty h).spc]

/-- ACC and DARK are written by AMB with its gate open and by SEED, which load a value that fits ACC; everything else
leaves both alone (R160, R161). -/
theorem exec_filter_cases (h : exec i s = .next t) :
    (t.acc = s.acc ∧ t.dark = s.dark) ∨
      ∃ a, t.acc.toNat = a ∧ t.dark = classify s.cfg s.dark a ∧
        ∃ raw,
          (i = .seed raw ∧ a = raw.toNat) ∨ (i = .amb raw ∧ a = emaNext s.cfg.emaK s.acc.toNat raw.toNat) := by
  cases does_of_exec h with
  | @ambOpen raw =>
    exact .inr ⟨_, s.loadFilter_acc_toNat (emaNext_lt _ s.acc raw), rfl, raw, .inr ⟨rfl, rfl⟩⟩
  | @seed raw => exact .inr ⟨_, s.loadFilter_acc_toNat raw.isLt, rfl, raw, .inl ⟨rfl, rfl⟩⟩
  | _ => exact .inl ⟨rfl, rfl⟩

end Registers

/-! ### The outputs -/

/-- In mode SW and with DARK at 1 only can the auxiliary pin be high (R186, R188). -/
theorem State.dark_and_sw_of_auxPin {s : State} (high : s.auxPin = true) :
    s.dark = true ∧ s.cfg.meterMode = .sw := by
  cases mode : s.cfg.meterMode with
  | hw => simp [State.auxPin_of_hw mode] at high
  | sw => exact ⟨((State.auxPin_iff_of_sw mode).mp high).1, rfl⟩

/-- Settles O45: the other operations keep the seven registers; a DUTY that is idle turns AUX off, and one that is not
reads the pin. -/
theorem onlyDutyWritesTheOutputs : Obligations.OnlyDutyWritesTheOutputs := by
  intro i s t h
  refine ⟨fun notDuty => ?others, ?aux, ?power⟩
  case others =>
    obtain ⟨spc, pwrEn, idle, head, tail, meter, aux⟩ := exec_lampsKept notDuty h
    exact ⟨spc, pwrEn, idle, head, tail, meter, aux⟩
  case aux =>
    rintro rfl high
    rcases exec_duty_cases h with ⟨-, rfl⟩ | ⟨-, rfl⟩
    · simp at high
    · exact State.dark_and_sw_of_auxPin high
  case power =>
    rintro rfl
    rcases exec_duty_cases h with ⟨-, rfl⟩ | ⟨-, rfl⟩ <;> rfl

end Sys2Proof.Machine
end

section
/-! The family other, third part: the clock edge, and the invariant that every edge keeps. -/

namespace Sys2Proof.Machine

/-! ### The clock edge (R45, R240) -/

/-- An edge with `rst` at 1: every register to its reset value. -/
theorem step_of_reset {s : State} {p : PortInput} {rest : List PortInput} (ok : s.cfg.ok = true)
    (listed : s.inputs = p :: rest) (reset : p.rst = true) :
    step s = .next { State.resetWith s.cfg with inputs := rest } := by
  have begun : s.beginEdge.cfg.ok = true := ok
  rw [step_eq, State.portInput_cons listed, State.edgeWith, if_pos reset, State.complete_of_ok begun,
    State.beginEdge_cons listed]
  rfl

/-- An edge with `rst` at 0 and `cmd_valid` at 1 accepts the word. -/
theorem step_of_valid {s : State} {p : PortInput} {rest : List PortInput} (listed : s.inputs = p :: rest)
    (noReset : p.rst = false) (valid : p.cmdValid = true) :
    step s = State.accept { s with events := [], inputs := rest } p.cmd := by
  rw [step_eq, State.portInput_cons listed, State.edgeWith, if_neg (by simp [noReset]), if_pos valid,
    State.beginEdge_cons listed]

/-- An edge with both at 0 holds the registers. -/
theorem step_of_quiet {s : State} (ok : s.cfg.ok = true) (noReset : s.portInput.rst = false)
    (notValid : s.portInput.cmdValid = false) : step s = .next s.beginEdge := by
  have begun : s.beginEdge.cfg.ok = true := ok
  rw [step_eq, State.edgeWith, if_neg (by simp [noReset]), if_neg (by simp [notValid]), State.complete_of_ok begun]

/-- Settles O2: `rst` is asked before `cmd_valid`. -/
theorem resetEdgeWinsOverTheCommand : Obligations.ResetEdgeWinsOverTheCommand :=
  fun _ _ _ _ ok listed => step_of_reset ok listed rfl

/-- Settles O3: one clause for each branch of the edge, and an empty list presents nothing. -/
theorem clockEdgeFollowsThePorts : Obligations.ClockEdgeFollowsThePorts := by
  intro s ok
  refine ⟨fun p rest listed => step_of_valid listed, fun p rest listed noReset notValid => ?quiet,
    fun p rest listed => step_of_reset ok listed, fun unlisted => ?unlisted⟩
  case quiet =>
    rw [← State.portInput_cons listed] at noReset notValid
    rw [step_of_quiet ok noReset notValid, State.beginEdge_cons listed]
  case unlisted =>
    have quiet : s.portInput = PortInput.quiet := by simp [State.portInput, unlisted]
    have begun : s.beginEdge = { s with events := [] } := by simp [State.beginEdge, unlisted]
    rw [step_of_quiet ok (by rw [quiet]; rfl) (by rw [quiet]; rfl), begun]

/-- A legal word is accepted by executing its operation (R84). -/
theorem State.accept_of_decode {w : Word} {i : Instr} (decoded : decode w = .op i) (s : State) :
    s.accept w = exec i s := by
  rw [State.accept, decoded]

/-- Settles O4: the edge accepts the word, and accepting executes its operation; `withFetchWord` presents the word that
the table reader decodes. -/
theorem stepRunsTheDecodedCommand : Obligations.StepRunsTheDecodedCommand := by
  constructor
  · intro s w rest i listed decoded
    exact (step_of_valid listed rfl rfl).trans (State.accept_of_decode decoded _)
  · intro s w i read
    exact (step_present s _).trans (State.accept_of_decode (decode_of_decodeTableWord read) _)

/-- Settles O7: every edge is the completion of a state with the configuration and one input fewer. -/
theorem stepKeepsTheConfiguration : Obligations.StepKeepsTheConfiguration := by
  intro s t h
  obtain ⟨u, completes, cfg, inputs⟩ := step_completes s
  rw [completes] at h
  obtain ⟨-, rfl⟩ := State.complete_next h
  exact ⟨cfg, inputs⟩

/-- Settles O17: without reset an edge keeps FAULT and FCAUSE or raises a fault, which records a cause only if FAULT was
0; and what raises it is a word that no operation has. -/
theorem faultIsStickyUntilReset : Obligations.FaultIsStickyUntilReset := by
  intro s t noReset h
  rcases step_fault_cases h with ⟨reset, -⟩ | ⟨-, fault, fcause⟩ | ⟨-, valid, why, illegal, rfl⟩
  · simp [noReset] at reset
  · exact ⟨fun set => ⟨fault.trans set, fcause⟩, fun clear set => by simp [fault, clear] at set⟩
  · exact ⟨fun set => ⟨rfl, by simp [set]⟩, fun _ _ => ⟨valid, encode_ne_of_illegal illegal⟩⟩

/-! ### The duties a lamp is given (R192) -/

section Duties

variable {s : State} (ok : s.cfg.ok = true)
include ok

/-- The headlight duty is legal. -/
theorem State.headDuty_le : s.headDuty.toNat ≤ 124 := by
  have facts := Config.facts ok
  rw [State.headDuty_toNat ok]
  split
  · exact facts.headDark_le
  · exact facts.headBright_le

/-- The tail duty is legal. -/
theorem State.tailDuty_le : s.tailDuty.toNat ≤ 124 := by
  have facts := Config.facts ok
  rw [State.tailDuty_toNat ok]
  split
  · exact facts.tailFlash_le
  · exact facts.tailDim_le

/-- The meter duty is legal in either mode. -/
theorem State.meterDuty_le : s.meterDuty.toNat ≤ 124 := by
  have facts := Config.facts ok
  cases mode : s.cfg.meterMode with
  | sw =>
    rw [State.meterDuty_of_sw mode]
    decide
  | hw =>
    rw [State.meterDuty_toNat_of_hw ok mode]
    split
    · exact facts.meterDark_le
    · exact facts.meterBright_le

end Duties

/-! ### Every operation keeps the invariant, clause by clause -/

section Invariant

variable {i : Instr} {s t : State}

/-- TC stays within the ceiling, which is where it saturates (R116). -/
theorem exec_keeps_tc_le (h : exec i s = .next t) (within : s.tc.toNat ≤ s.cfg.tickCeil) :
    t.tc.toNat ≤ s.cfg.tickCeil := by
  cases exec_countStep h with
  | ticked _ tc =>
    rw [tc]
    rcases satInc_cases s.tc.toNat s.cfg.tickCeil with ⟨below, inc⟩ | ⟨-, stays⟩ <;> omega
  | reset _ _ tc =>
    rw [tc]
    exact Nat.zero_le _
  | kept _ _ tc => rwa [tc]

/-- SPC stays below the period, where it wraps. -/
theorem exec_keeps_spc_lt (h : exec i s = .next t) (below : s.spc.toNat < s.cfg.swPeriod) :
    t.spc.toNat < s.cfg.swPeriod := by
  rw [exec_spc h]
  split
  · rcases perInc_cases s.spc.toNat s.cfg.swPeriod with ⟨-, wraps⟩ | ⟨inside, inc⟩ <;> omega
  · exact below

/-- The ranges are kept: MS and ACC by their widths, the duties because DUTY writes legal ones only. -/
theorem exec_keeps_ranges (h : exec i s = .next t) (ranges : s.RangesHold) : t.RangesHold := by
  obtain ⟨ok, cfg, -⟩ := exec_next h
  have tc : t.tc.toNat ≤ t.cfg.tickCeil := by rw [cfg]; exact exec_keeps_tc_le h ranges.tc
  have spc : t.spc.toNat < t.cfg.swPeriod := by rw [cfg]; exact exec_keeps_spc_lt h ranges.spc
  have ms : t.ms.toNat ≤ 1023 := Nat.le_of_lt_succ t.ms.isLt
  have acc : t.acc.toNat ≤ 1023 := Nat.le_of_lt_succ t.acc.isLt
  by_cases duty : i = .duty
  · subst duty
    rcases exec_duty_cases h with ⟨-, rfl⟩ | ⟨-, rfl⟩
    · exact ⟨tc, ms, acc, spc, Nat.zero_le _, Nat.zero_le _, Nat.zero_le _⟩
    · exact ⟨tc, ms, acc, spc, State.headDuty_le ok, State.tailDuty_le ok, State.meterDuty_le ok⟩
  · have kept := exec_lampsKept duty h
    exact ⟨tc, ms, acc, spc, kept.head ▸ ranges.head, kept.tail ▸ ranges.tail, kept.meter ▸ ranges.meter⟩

/-- The outputs keep agreeing with IDLE and the meter mode: only DUTY writes them, and it writes them together. -/
theorem exec_keeps_outputs (h : exec i s = .next t) (agree : s.OutputsAgree) : t.OutputsAgree := by
  obtain ⟨-, cfg, -⟩ := exec_next h
  by_cases duty : i = .duty
  · subst duty
    rcases exec_duty_cases h with ⟨-, rfl⟩ | ⟨-, rfl⟩
    · exact ⟨fun _ => ⟨rfl, rfl, rfl, rfl, rfl⟩, fun _ => rfl, fun _ => rfl⟩
    · exact ⟨nofun, fun sw => State.meterDuty_of_sw sw, fun hw => State.auxPin_of_hw hw⟩
  · obtain ⟨-, pwrEn, idle, head, tail, meter, aux⟩ := exec_lampsKept duty h
    constructor
    · rw [idle, pwrEn, head, tail, meter, aux]
      exact agree.idleOff
    · rw [cfg, meter]
      exact agree.swMeter
    · rw [cfg, aux]
      exact agree.hwAux

/-- A latch that classifies the value it is given agrees with it, because the thresholds are in order (R167 (2)). -/
theorem classify_agrees {c : Config} (order : c.thLo ≤ c.thHi) (dark : Bool) (a : Nat) :
    (classify c dark a = false → c.thLo < a) ∧ (classify c dark a = true → a ≤ c.thHi) := by
  rcases classify_cases c dark a with ⟨-, side, new⟩ | ⟨-, side, new⟩ | ⟨-, side, new⟩ | ⟨-, side, new⟩
  all_goals
    simp only [new, reduceCtorEq, false_implies, true_implies, true_and, and_true]
    omega

/-- The latch keeps agreeing with the accumulator: both are loaded together or neither is. -/
theorem exec_keeps_latch (h : exec i s = .next t) (agrees : s.LatchAgrees) : t.LatchAgrees := by
  obtain ⟨ok, cfg, -⟩ := exec_next h
  rcases exec_filter_cases h with ⟨acc, dark⟩ | ⟨a, acc, dark, -⟩
  · constructor
    · rw [cfg, acc, dark]
      exact agrees.bright
    · rw [cfg, acc, dark]
      exact agrees.dark
  · obtain ⟨bright, darkens⟩ := classify_agrees (Config.facts ok).thLo_le_thHi s.dark a
    constructor
    · rwa [cfg, acc, dark]
    · rwa [cfg, acc, dark]

/-- Every operation keeps the invariant. -/
theorem exec_keeps_inv (h : exec i s = .next t) (inv : s.Inv) : t.Inv := by
  obtain ⟨ok, cfg, -, fault, fcause⟩ := exec_next h
  refine ⟨cfg ▸ ok, exec_keeps_ranges h inv.ranges, exec_keeps_outputs h inv.outputs, exec_keeps_latch h inv.latch,
    fun policy => ?epoch, ?noFault, ?cause⟩
  case epoch =>
    rw [cfg] at policy
    rw [exec_mep_of_everyIter policy h]
    exact inv.epoch policy
  case noFault =>
    rw [fault, fcause]
    exact inv.noFault
  case cause =>
    rw [fault, fcause]
    exact inv.cause

end Invariant

/-! ### Every edge keeps the invariant -/

/-- Settles O53: at reset every range clause reads 0, the latch is dark over an accumulator of 0, and FAULT is 0. -/
theorem invariantHoldsAtReset : Obligations.InvariantHoldsAtReset := by
  intro c inputs ok
  have period : 0 < c.swPeriod := (Config.facts ok).swPeriod_pos
  exact
    { cfgOk := ok
      ranges := ⟨Nat.zero_le _, Nat.zero_le _, Nat.zero_le _, period, Nat.zero_le _, Nat.zero_le _, Nat.zero_le _⟩
      outputs := ⟨nofun, fun _ => rfl, fun _ => rfl⟩
      latch := ⟨nofun, fun _ => Nat.zero_le _⟩
      epoch := fun _ => rfl
      noFault := fun _ => rfl
      cause := nofun }

/-- The invariant speaks of neither the events nor the inputs to come. -/
theorem State.Inv.beginEdge {s : State} (inv : s.Inv) : s.beginEdge.Inv where
  cfgOk := inv.cfgOk
  ranges := { inv.ranges with }
  outputs := { inv.outputs with }
  latch := { inv.latch with }
  epoch := inv.epoch
  noFault := inv.noFault
  cause := inv.cause

/-- Raising a fault keeps the invariant: it leaves a cause and touches nothing else (R211). -/
theorem State.Inv.raiseFault {s : State} (inv : s.Inv) (why : Illegal) : (s.raiseFault why.code).Inv where
  cfgOk := inv.cfgOk
  ranges := { inv.ranges with }
  outputs := { inv.outputs with }
  latch := { inv.latch with }
  epoch := inv.epoch
  noFault := nofun
  cause := State.raiseFault_hasCause inv.cause why

/-- Accepting a word keeps the invariant, be the word legal or not. -/
theorem State.accept_keeps_inv {s t : State} {w : Word} (h : s.accept w = .next t) (inv : s.Inv) : t.Inv := by
  cases decoded : decode w with
  | op i =>
    rw [State.accept_of_decode decoded] at h
    exact exec_keeps_inv h inv
  | illegal why =>
    rw [State.accept_of_illegal decoded] at h
    obtain ⟨-, rfl⟩ := State.complete_next h
    exact inv.raiseFault why

/-- Settles O54: the three branches of the edge, reset, accepted word and held registers. -/
theorem everyStepKeepsTheInvariant : Obligations.EveryStepKeepsTheInvariant := by
  intro s t inv h
  rw [step_eq, State.edgeWith] at h
  split at h
  · obtain ⟨-, rfl⟩ := State.complete_next h
    exact invariantHoldsAtReset s.cfg _ inv.cfgOk
  · split at h
    · exact State.accept_keeps_inv h inv.beginEdge
    · obtain ⟨-, rfl⟩ := State.complete_next h
      exact inv.beginEdge

/-- Settles O55: reset meets the invariant and every step keeps it. -/
theorem reachableStatesMeetTheInvariant : Obligations.ReachableStatesMeetTheInvariant := by
  intro s reachable
  induction reachable with
  | reset c inputs ok => exact invariantHoldsAtReset c inputs ok
  | step s t _ next inv => exact everyStepKeepsTheInvariant s t inv next

end Sys2Proof.Machine
end

section
/-! The family other, fourth part: a run as a relation along its operations, and the laws of the two counters. -/

namespace Sys2Proof.Machine

/-! ### Runs of operations (R202) -/

/-- Presenting the word of an operation executes it, the event pulses of the edge before being over. -/
theorem step_present_encode (i : Instr) (s : State) :
    step (s.present (encode i)) = exec i { s with events := [] } :=
  (step_present s _).trans (State.accept_of_decode (decode_encode i) _)

/-- The run of the operations leads from one state to the other, operation by operation. `run_iff` ties the relation to
`runOps`. -/
inductive Run : List Instr → State → State → Prop
  | nil (s : State) : Run [] s s
  | cons {i : Instr} {is : List Instr} {s u t : State} (first : exec i { s with events := [] } = .next u)
      (rest : Run is u t) : Run (i :: is) s t

/-- The relation is the run of the model. -/
theorem run_iff {is : List Instr} {s t : State} : Run is s t ↔ runOps is s = .next t := by
  constructor
  · intro run
    induction run with
    | nil => rfl
    | @cons i is s u t first _ rest =>
      rw [← step_present_encode] at first
      exact (runWords_cons first).trans rest
  · intro run
    induction is generalizing s with
    | nil =>
      cases run
      exact .nil _
    | cons i is ih =>
      obtain ⟨u, first, rest⟩ := runWords_cons_next run
      rw [step_present_encode] at first
      exact .cons first (ih rest)

/-- Under a well-formed configuration every run completes. -/
theorem exists_run (is : List Instr) {s : State} (ok : s.cfg.ok = true) : ∃ t, Run is s t := by
  induction is generalizing s with
  | nil => exact ⟨s, .nil s⟩
  | cons i is ih =>
    obtain ⟨-, operation⟩ := everyOperationAndEdgeCompletes { s with events := [] } ok
    obtain ⟨u, first⟩ := operation i
    obtain ⟨-, cfg, -⟩ := exec_next first
    have kept : u.cfg.ok = true := by rw [cfg]; exact ok
    obtain ⟨t, rest⟩ := ih kept
    exact ⟨t, .cons first rest⟩

/-- A law of all completed runs gives the completed run with the law. -/
theorem exists_runOps {is : List Instr} {s : State} {P : State → Prop} (ok : s.cfg.ok = true)
    (law : ∀ t, Run is s t → P t) : ∃ t, runOps is s = .next t ∧ P t := by
  obtain ⟨t, run⟩ := exists_run is ok
  exact ⟨t, run_iff.mp run, law t run⟩

section Laws

variable {is : List Instr} {s t : State}

/-- No run writes the configuration (R39). -/
theorem Run.cfg_eq (run : Run is s t) : t.cfg = s.cfg := by
  induction run with
  | nil => rfl
  | cons first _ rest => exact rest.trans (exec_next first).2.1

/-- A run followed by a run. -/
theorem Run.append {js : List Instr} {u : State} (run : Run is s t) (more : Run js t u) : Run (is ++ js) s u := by
  induction run with
  | nil => exact more
  | cons first _ rest => exact .cons first (rest more)

/-- A run of one operation. -/
theorem Run.single {i : Instr} (h : exec i { s with events := [] } = .next t) : Run [i] s t := .cons h (.nil t)

/-- The tick count, operation by operation. -/
theorem tickCount_cons (i : Instr) (is : List Instr) :
    tickCount (i :: is) = tickCount is + if i = .tick then 1 else 0 := by
  simp [tickCount, List.count_cons]

/-! ### The counter laws (40_tick_counters.md section 3) -/

/-- MS advances by the number of TICKs in the ring. -/
theorem Run.ms_eq (run : Run is s t) : t.ms.toNat = (s.ms.toNat + tickCount is) % 1024 := by
  induction run with
  | nil s => exact (Nat.mod_eq_of_lt s.ms.isLt).symm
  | @cons i is s u t first _ rest =>
    have here : u.ms.toNat = (s.ms.toNat + if i = .tick then 1 else 0) % 1024 := (exec_ms first :)
    rw [rest, here, tickCount_cons]
    omega

/-- An operation that does not perform `do_rstcnt` counts its tick, up to the ceiling. -/
theorem exec_tc_of_kept {i : Instr} (h : exec i s = .next t) (within : s.tc.toNat ≤ s.cfg.tickCeil)
    (kept : ¬ s.ResetsCount i) : t.tc.toNat = min (s.tc.toNat + if i = .tick then 1 else 0) s.cfg.tickCeil := by
  cases exec_countStep h with
  | ticked tick tc =>
    rw [tc, if_pos tick]
    rcases satInc_cases s.tc.toNat s.cfg.tickCeil with ⟨below, inc⟩ | ⟨above, stays⟩ <;> omega
  | reset _ resets => exact absurd resets kept
  | kept notTick _ tc =>
    rw [tc, if_neg notTick]
    omega

/-- Along a run that keeps the count TC advances by the number of TICKs, up to the ceiling. -/
theorem Run.tc_eq_of_keepsCount (run : Run is s t) (within : s.tc.toNat ≤ s.cfg.tickCeil) (keeps : KeepsCount is s) :
    t.tc.toNat = min (s.tc.toNat + tickCount is) s.cfg.tickCeil := by
  induction run with
  | nil s => exact (Nat.min_eq_left within).symm
  | @cons i is s u t first _ rest =>
    obtain ⟨here, after⟩ := (KeepsCount_cons ((step_present_encode i s).trans first)).mp keeps
    have tc : u.tc.toNat = min (s.tc.toNat + if i = .tick then 1 else 0) s.cfg.tickCeil :=
      (exec_tc_of_kept first within here :)
    have cfg : u.cfg = s.cfg := (exec_next first).2.1
    rw [rest (by rw [tc, cfg]; exact Nat.min_le_right _ _) after, cfg, tc, tickCount_cons]
    omega

/-- Whatever an operation does, TC rises by no more than its tick. -/
theorem exec_tc_le {i : Instr} (h : exec i s = .next t) : t.tc.toNat ≤ s.tc.toNat + if i = .tick then 1 else 0 := by
  cases exec_countStep h with
  | ticked tick tc =>
    rw [tc, if_pos tick]
    rcases satInc_cases s.tc.toNat s.cfg.tickCeil with ⟨-, inc⟩ | ⟨-, stays⟩ <;> omega
  | reset _ _ tc =>
    rw [tc]
    exact Nat.zero_le _
  | kept _ _ tc =>
    rw [tc]
    exact Nat.le_add_right _ _

/-- Whatever a run does, TC rises by no more than the number of TICKs. -/
theorem Run.tc_le (run : Run is s t) : t.tc.toNat ≤ s.tc.toNat + tickCount is := by
  induction run with
  | nil => exact Nat.le_refl _
  | @cons i is s u t first _ rest =>
    have here : u.tc.toNat ≤ s.tc.toNat + if i = .tick then 1 else 0 := (exec_tc_le first :)
    rw [tickCount_cons]
    omega

end Laws

/-- Settles O21: the law of `Run.tc_eq_of_keepsCount`, along the run that completes. -/
theorem tickCountIsTheSaturatedNumberOfTicks : Obligations.TickCountIsTheSaturatedNumberOfTicks :=
  fun _ _ ok within keeps => exists_runOps ok fun _ run => run.tc_eq_of_keepsCount within keeps

/-- Settles O22: the law of `Run.ms_eq`, along the run that completes. -/
theorem millisCountsTheTicksModuloTheRing : Obligations.MillisCountsTheTicksModuloTheRing :=
  fun _ _ ok => exists_runOps ok fun _ run => run.ms_eq

/-! ### A tick at a Reset-Counter (R113) -/

/-- TICK performs no `do_rstcnt`. -/
theorem State.ResetsCount.ne_tick {i : Instr} {s : State} (resets : s.ResetsCount i) : i ≠ .tick := by
  rintro rfl
  rcases resets with h | ⟨cur, reads, -⟩
  · cases h
  · cases reads

/-- What performs `do_rstcnt` leaves TC at 0. -/
theorem exec_tc_of_resets {i : Instr} {s t : State} (h : exec i s = .next t) (resets : s.ResetsCount i) : t.tc = 0 := by
  cases exec_countStep h with
  | ticked tick => exact absurd tick resets.ne_tick
  | reset _ _ tc => exact tc
  | kept _ kept => exact absurd resets kept

/-- A tick from TC at 0 leaves 1, the ceiling being at least 1. -/
theorem exec_tick_tc_of_zero {s t : State} (h : exec .tick s = .next t) (zero : s.tc = 0) : t.tc = 1 := by
  obtain ⟨ok, -⟩ := exec_next h
  have ceil := (Config.facts ok).tickCeil_pos
  apply BitVec.eq_of_toNat_eq
  rw [exec_tc_of_kept h (by simp [zero]) fun resets => resets.ne_tick rfl, zero]
  simpa using ceil

/-- A tick advances TC up to the ceiling. -/
theorem exec_tick_tc {s t : State} (h : exec .tick s = .next t) : t.tc.toNat = satInc s.tc.toNat s.cfg.tickCeil := by
  cases exec_countStep h with
  | ticked _ tc => exact tc
  | reset notTick => exact absurd rfl notTick
  | kept notTick => exact absurd rfl notTick

/-- Under EVERY_ITER a tick keeps every reason to perform `do_rstcnt`: the gate stays open and TC does not fall. -/
theorem State.ResetsCount.after_tick {i : Instr} {s u : State} (policy : s.cfg.motionPolicy = .everyIter)
    (h : exec .tick s = .next u) (resets : s.ResetsCount i) : u.ResetsCount i := by
  obtain ⟨ok, -⟩ := exec_next h
  have tc := exec_tick_tc h
  obtain rfl := Host.Outcome.next.inj ((exec_tick_next ok).symm.trans h)
  refine resets.imp_right ?_
  rintro ⟨cur, reads, -, settled, differs⟩
  have settledAfter : s.cfg.settleTh < satInc s.tc.toNat s.cfg.tickCeil := by
    rcases satInc_cases s.tc.toNat s.cfg.tickCeil with ⟨-, inc⟩ | ⟨-, stays⟩ <;> omega
  exact ⟨cur, reads, by simp [State.GateShut, policy], tc ▸ settledAfter, differs⟩

/-- Settles O23: in the first order the tick finds TC at 0, in the second the reset finds the tick's count; MS counts
the tick of either run. -/
theorem tickAtTheResetBoundaryIsNeitherLostNorDoubled : Obligations.TickAtTheResetBoundaryIsNeitherLostNorDoubled := by
  intro i s ok
  refine ⟨fun resets => exists_runOps ok fun t run => ?resetFirst, _, exec_tick_next ok,
    fun resets => exists_runOps ok fun t run => ?tickFirst, fun policy resets =>
    resets.after_tick policy (exec_tick_next ok)⟩
  case resetFirst =>
    have oneTick : tickCount [i, .tick] = 1 := by simp [tickCount, resets.ne_tick]
    refine ⟨?_, oneTick ▸ run.ms_eq⟩
    cases run with | cons first rest =>
    cases rest with | cons second rest =>
    cases rest
    have zero := exec_tc_of_resets first resets
    exact exec_tick_tc_of_zero second zero
  case tickFirst =>
    have oneTick : tickCount [.tick, i] = 1 := by simp [tickCount, resets.ne_tick]
    refine ⟨?_, oneTick ▸ run.ms_eq⟩
    cases run with | cons first rest =>
    cases rest with | cons second rest =>
    cases rest
    obtain rfl := Host.Outcome.next.inj ((exec_tick_next (s := { s with events := [] }) ok).symm.trans first)
    exact exec_tc_of_resets second resets

end Sys2Proof.Machine
end

section
/-! The family other, fifth part: the cadence gate, the debounce and the phases of the idle timer. -/

namespace Sys2Proof.Machine

/-! ### The cadence gate (R144) -/

/-- Settles O28: the first command leaves the window in MEP, so the second finds the gate shut. -/
theorem atMostOneMotionCheckPerWindow : Obligations.AtMostOneMotionCheckPerWindow := by
  intro i j a b s t u policy readsI readsJ h cfg mep window
  obtain ⟨ok, kept, -⟩ := exec_next h
  have cfgU : u.cfg = s.cfg := cfg.trans kept
  have epoch : t.mep.toNat = s.ms.toNat / 128 := (exec_motion_next readsI h).epochRate policy
  have shut : u.GateShut := by
    refine ⟨by rw [cfgU, policy], ?_⟩
    rw [mep, epoch, window]
  rw [← cfgU] at ok readsJ
  obtain ⟨v, answered, effect⟩ := exec_motion_effect ok readsJ
  rwa [effect.shut shut] at answered

/-- The motion registers hold their reset values and MEP names the window of MS, under RATE128: the gate is shut since
reset. -/
structure State.MotionUntouched (s : State) : Prop where
  shut : s.GateShut
  mov : s.mov = false
  prev : s.prev = false
  mep : s.mep = 0

/-- While MS has not left window 0 the gate stays shut and the motion registers untouched. -/
theorem Run.motionUntouched {is : List Instr} {s t : State} (run : Run is s t) (untouched : s.MotionUntouched)
    (ticks : s.ms.toNat + tickCount is < 128) : t.MotionUntouched := by
  induction run with
  | nil => exact untouched
  | @cons i is s u t first _ rest =>
    obtain ⟨shut, mov, prev, mep⟩ := untouched
    obtain ⟨-, cfg, -⟩ := exec_next first
    obtain ⟨movU, prevU, mepU⟩ := exec_motion_registers_of_shut (s := { s with events := [] }) shut first
    have ms : u.ms.toNat = (s.ms.toNat + if i = .tick then 1 else 0) % 1024 := (exec_ms first :)
    rw [tickCount_cons] at ticks
    have mepZero : u.mep = 0 := mepU.trans mep
    have window : u.ms.toNat / 128 = u.mep.toNat := by
      have epoch : u.mep.toNat = 0 := congrArg BitVec.toNat mepZero
      omega
    have policy : u.cfg.motionPolicy = .rate128 := by rw [cfg]; exact shut.1
    exact rest ⟨⟨policy, window⟩, movU.trans mov, prevU.trans prev, mepZero⟩ (by omega)

/-- Settles O29: reset leaves the motion registers untouched, with MS at 0. -/
theorem rateLimitedGateIsShutAfterReset : Obligations.RateLimitedGateIsShutAfterReset := by
  intro is c ok policy ticks
  refine exists_runOps (s := State.resetWith c) ok fun t run => ?_
  have window : (State.resetWith c).ms.toNat / 128 = (State.resetWith c).mep.toNat := by simp
  have start : (State.resetWith c).MotionUntouched := ⟨⟨policy, window⟩, rfl, rfl, rfl⟩
  obtain ⟨shut, mov, prev, mep⟩ := run.motionUntouched start (by simpa using ticks)
  exact ⟨shut, mov, prev, mep⟩

/-! ### The debounce (R149) -/

/-- Settles O30: TC rises by the ticks at most, and an honoured change needs it past the settle threshold. -/
theorem honouredChangesAreSpacedByTicks : Obligations.HonouredChangesAreSpacedByTicks := by
  intro is s t cur zero run honoured
  have run := run_iff.mpr run
  have risen := run.tc_le
  have settled : s.cfg.settleTh < t.tc.toNat := run.cfg_eq ▸ honoured.2.1
  have start : s.tc.toNat = 0 := congrArg BitVec.toNat zero
  omega

/-- The ticks that TC has already counted towards the next honoured change, which needs `SETTLE_TH + 1`. -/
def State.credit (s : State) : Nat := min s.tc.toNat (s.cfg.settleTh + 1)

/-- An operation earns one tick of credit at most, and an honoured change costs `SETTLE_TH + 1`. -/
theorem exec_credit {i : Instr} {s t : State} (h : exec i s = .next t) :
    t.credit + (if t.prev = s.prev then 0 else 1) * (s.cfg.settleTh + 1) ≤
      s.credit + if i = .tick then 1 else 0 := by
  obtain ⟨-, cfg, -⟩ := exec_next h
  have risen := exec_tc_le h
  simp only [State.credit, cfg]
  rcases exec_prev_cases h with same | ⟨settled, notTick, zero⟩
  · rw [if_pos same]
    omega
  · have spent : t.tc.toNat = 0 := congrArg BitVec.toNat zero
    rw [spent, if_neg notTick]
    split <;> omega

/-- Each honoured change of a run is paid for, by the credit at its start or by its ticks. -/
theorem honouredCount_mul_le (is : List Instr) (s : State) :
    honouredCount is s * (s.cfg.settleTh + 1) ≤ s.credit + tickCount is := by
  induction is generalizing s with
  | nil => simp [honouredCount]
  | cons i is ih =>
    rw [honouredCount]
    split
    next u h =>
      have paid := exec_credit h
      have later := ih u
      rw [(exec_next h).2.1] at later
      rw [Nat.add_mul, tickCount_cons]
      omega
    next => simp
    next => simp

/-- Settles O31: the credit at the start pays for one change at most. -/
theorem motionResetsAreBoundedByTheTicks : Obligations.MotionResetsAreBoundedByTheTicks := by
  intro is s _
  have credit : s.credit ≤ s.cfg.settleTh + 1 := Nat.min_le_right _ _
  have paid := honouredCount_mul_le is s
  rw [← Nat.add_div_right _ (Nat.succ_pos s.cfg.settleTh), Nat.le_div_iff_mul_le (Nat.succ_pos s.cfg.settleTh)]
  exact paid.trans (by omega)

/-! ### The idle timer (R150, R204) -/

/-- Settles O32: a tick does not lower TC, and what is neither a tick nor a reset of the count keeps it. -/
theorem onlyResetCounterLeavesIdleness : Obligations.OnlyResetCounterLeavesIdleness := by
  intro i s t h idle awake
  cases exec_countStep h with
  | ticked _ tc =>
    rw [tc] at awake
    rcases satInc_cases s.tc.toNat s.cfg.tickCeil with ⟨-, inc⟩ | ⟨-, stays⟩ <;> omega
  | reset _ resets => exact resets
  | kept _ _ tc =>
    rw [tc] at awake
    exact absurd idle (Nat.not_lt.mpr awake)

/-- SETTLING is TC up to the settle threshold (R204). -/
theorem State.phase_eq_settling (s : State) : s.phase = .settling ↔ s.tc.toNat ≤ s.cfg.settleTh := by
  unfold State.phase
  split
  · simp [*]
  · split <;> simp [*]

/-- ARMED is TC past the settle threshold and up to the idle threshold (R204). -/
theorem State.phase_eq_armed (s : State) :
    s.phase = .armed ↔ s.cfg.settleTh < s.tc.toNat ∧ s.tc.toNat ≤ s.cfg.idleTh := by
  unfold State.phase
  split
  next settling => simp [Nat.not_lt.mpr settling]
  next armed => split <;> simp_all

/-- IDLE is TC past both thresholds (R204). -/
theorem State.phase_eq_idle (s : State) :
    s.phase = .idle ↔ s.cfg.settleTh < s.tc.toNat ∧ s.cfg.idleTh < s.tc.toNat := by
  unfold State.phase
  split
  next settling => simp [Nat.not_lt.mpr settling]
  next armed => split <;> simp_all

/-- Settles O33: TC advances by one below the ceiling, and both thresholds are below it. -/
theorem idlePhaseMovesOnlyForwardUnderTicks : Obligations.IdlePhaseMovesOnlyForwardUnderTicks := by
  intro s t order h
  obtain ⟨ok, cfg, -⟩ := exec_next h
  have tc := exec_tick_tc h
  have facts := Config.facts ok
  have settle := facts.settleTh_lt
  have idle := facts.idleTh_lt
  have ticked : t.tc.toNat = s.tc.toNat + 1 ∨ (s.cfg.tickCeil ≤ s.tc.toNat ∧ t.tc.toNat = s.tc.toNat) := by
    rw [tc]
    rcases satInc_cases s.tc.toNat s.cfg.tickCeil with ⟨-, inc⟩ | ⟨above, stays⟩
    · exact .inl inc
    · exact .inr ⟨above, stays⟩
  refine ⟨fun settling => ?settling, fun armed => ?armed, fun idlePhase => ?idle, fun u reset => ?reset⟩
  case settling =>
    rw [State.phase_eq_settling] at settling
    split
    · rw [State.phase_eq_armed, cfg]
      omega
    · rw [State.phase_eq_settling, cfg]
      omega
  case armed =>
    rw [State.phase_eq_armed] at armed
    split
    · rw [State.phase_eq_idle, cfg]
      omega
    · rw [State.phase_eq_armed, cfg]
      omega
  case idle =>
    rw [State.phase_eq_idle] at idlePhase ⊢
    rw [cfg]
    omega
  case reset =>
    rw [State.phase_eq_settling, exec_tc_of_resets reset (.inl rfl)]
    exact Nat.zero_le _

end Sys2Proof.Machine
end

section
/-! The family other, sixth part: the laws of the ambient filter and of its latch. -/

namespace Sys2Proof.Machine

/-! ### The moving average (R164, R165) -/

/-- No step of the moving average falls below a common bound of the accumulator and the sample. -/
theorem le_emaNext (k : Nat) {acc s m : Nat} (hacc : m ≤ acc) (hs : m ≤ s) : m ≤ emaNext k acc s := by
  have kept : m - m / 2 ^ k ≤ acc - acc / 2 ^ k := sub_div_mono (Nat.two_pow_pos k) hacc
  have added : m / 2 ^ k ≤ s / 2 ^ k := Nat.div_le_div_right hs
  rw [emaNext_eq]
  omega

/-- Settles O36: the smaller and the larger argument bound both. -/
theorem movingAverageStaysBetweenItsArguments : Obligations.MovingAverageStaysBetweenItsArguments :=
  fun k acc s => ⟨le_emaNext k (Nat.min_le_left acc s) (Nat.min_le_right acc s),
    emaNext_le k (Nat.le_max_left acc s) (Nat.le_max_right acc s)⟩

/-- The values with quotient `q` are a band of width `p`. -/
theorem div_eq_iff_band {p : Nat} (hp : 0 < p) (a q : Nat) : a / p = q ↔ p * q ≤ a ∧ a ≤ p * q + p - 1 := by
  rw [Nat.div_eq_iff hp, Nat.mul_comm q p]

/-- Settles O37: a step adds the quotient of the sample and takes that of the accumulator, so it rests where they are
equal; and what it keeps of the accumulator is at most, or at least, what it keeps of the end of the band. -/
theorem movingAverageRestsOnTheBandOfTheSample : Obligations.MovingAverageRestsOnTheBandOfTheSample := by
  intro k acc s q quotient
  have pos : 0 < 2 ^ k := Nat.two_pow_pos k
  have share : acc / 2 ^ k ≤ acc := Nat.div_le_self acc _
  rw [emaNext_eq, ← quotient]
  refine ⟨?rests, fun below => ?below, fun above => ?above⟩
  case rests =>
    rw [← div_eq_iff_band pos]
    omega
  case below =>
    have quotientLt : acc / 2 ^ k < q := (Nat.div_lt_iff_lt_mul pos).mpr (Nat.mul_comm q _ ▸ below)
    have kept : acc - acc / 2 ^ k ≤ 2 ^ k * q - 2 ^ k * q / 2 ^ k := sub_div_mono pos below.le
    have endQuotient : 2 ^ k * q / 2 ^ k = q := Nat.mul_div_cancel_left q pos
    have inside : q ≤ 2 ^ k * q := Nat.le_mul_of_pos_left q pos
    omega
  case above =>
    have quotientGt : q < acc / 2 ^ k := by
      rw [Nat.lt_iff_add_one_le, Nat.le_div_iff_mul_le pos, Nat.add_mul, Nat.mul_comm q]
      omega
    have kept := sub_div_mono pos above.le
    have endQuotient : (2 ^ k * q + 2 ^ k - 1) / 2 ^ k = q :=
      (div_eq_iff_band pos _ q).mpr ⟨by omega, Nat.le_refl _⟩
    have inside : q ≤ 2 ^ k * q := Nat.le_mul_of_pos_left q pos
    omega

/-! ### Convergence to the band (R165, conflict C2) -/

/-- The value of the band from `lo` to `hi` nearest to `a`. -/
def nearestInBand (lo hi a : Nat) : Nat := if a < lo then lo else if hi < a then hi else a

/-- How far `a` is outside the band from `lo` to `hi`. -/
def bandDistance (lo hi a : Nat) : Nat := (lo - a) + (a - hi)

/-- On the band the nearest value is the value itself. -/
theorem nearestInBand_of_distance_zero {lo hi a : Nat} (zero : bandDistance lo hi a = 0) :
    nearestInBand lo hi a = a := by
  unfold bandDistance at zero
  rw [nearestInBand, if_neg (by omega), if_neg (by omega)]

/-- Up to the band the nearest value is its lower end. -/
theorem nearestInBand_of_le {lo hi a : Nat} (order : lo ≤ hi) (below : a ≤ lo) : nearestInBand lo hi a = lo := by
  unfold nearestInBand
  split
  · rfl
  · rw [if_neg (by omega)]
    omega

/-- From the band on the nearest value is its upper end. -/
theorem nearestInBand_of_ge {lo hi a : Nat} (order : lo ≤ hi) (above : hi ≤ a) : nearestInBand lo hi a = hi := by
  rw [nearestInBand, if_neg (by omega)]
  split <;> omega

/-- A step towards the band of the sample brings ACC nearer, if it is outside, and keeps the end it is heading for. -/
theorem emaNext_approaches {k acc s lo hi : Nat} (hlo : lo = 2 ^ k * (s / 2 ^ k)) (hhi : hi = lo + 2 ^ k - 1) :
    nearestInBand lo hi (emaNext k acc s) = nearestInBand lo hi acc ∧
      bandDistance lo hi (emaNext k acc s) ≤ bandDistance lo hi acc - 1 := by
  have pos : 0 < 2 ^ k := Nat.two_pow_pos k
  obtain ⟨rests, below, above⟩ := movingAverageRestsOnTheBandOfTheSample k acc s _ rfl
  rw [← hlo, ← hhi] at rests above
  rw [← hlo] at below
  have order : lo ≤ hi := by omega
  unfold bandDistance
  rcases Nat.lt_or_ge acc lo with low | fromLo
  · obtain ⟨rises, notPast⟩ := below low
    rw [nearestInBand_of_le order notPast, nearestInBand_of_le order low.le]
    exact ⟨rfl, by omega⟩
  · rcases Nat.lt_or_ge hi acc with high | toHi
    · obtain ⟨notPast, falls⟩ := above high
      rw [nearestInBand_of_ge order notPast, nearestInBand_of_ge order high.le]
      exact ⟨rfl, by omega⟩
    · rw [rests.mpr ⟨fromLo, toHi⟩]
      exact ⟨rfl, by omega⟩

/-- An AMB with the gate open stores the moving average and leaves the gate open. -/
theorem exec_amb_acc {raw : Sample} {s t : State} (h : exec (.amb raw) s = .next t) (opened : s.spc = 0) :
    t.acc.toNat = emaNext s.cfg.emaK s.acc.toNat raw.toNat ∧ t.spc = 0 := by
  obtain ⟨ok, -⟩ := exec_next h
  obtain rfl := Host.Outcome.next.inj ((exec_amb_of_sampling ok opened raw).symm.trans h)
  exact ⟨s.loadFilter_acc_toNat (emaNext_lt _ s.acc raw), opened⟩

/-- Each AMB of a constant light with the gate open takes one off the distance to the band, until none is left. -/
theorem Run.approaches {n : Nat} {raw : Sample} {lo hi : Nat} {s t : State}
    (run : Run (List.replicate n (.amb raw)) s t) (opened : s.spc = 0)
    (hlo : lo = 2 ^ s.cfg.emaK * (raw.toNat / 2 ^ s.cfg.emaK)) (hhi : hi = lo + 2 ^ s.cfg.emaK - 1) :
    nearestInBand lo hi t.acc.toNat = nearestInBand lo hi s.acc.toNat ∧
      bandDistance lo hi t.acc.toNat ≤ bandDistance lo hi s.acc.toNat - n := by
  induction n generalizing s with
  | zero =>
    cases run
    exact ⟨rfl, Nat.le_refl _⟩
  | succ n ih =>
    rw [List.replicate_succ] at run
    cases run with | @cons _ _ _ u _ first rest =>
    have cfg : u.cfg = s.cfg := (exec_next first).2.1
    have acc : u.acc.toNat = emaNext s.cfg.emaK s.acc.toNat raw.toNat := (exec_amb_acc first opened).1
    have openedU : u.spc = 0 := (exec_amb_acc first opened).2
    obtain ⟨sameEnd, nearer⟩ := emaNext_approaches (acc := s.acc.toNat) hlo hhi
    rw [← cfg] at hlo hhi
    obtain ⟨endU, distance⟩ := ih rest openedU hlo hhi
    rw [acc] at endU distance
    exact ⟨endU.trans sameEnd, by omega⟩

/-- Settles O38: no value is further than 1023 outside the band, and at distance 0 ACC is the end it was heading for. -/
theorem constantLightConvergesToTheBand : Obligations.ConstantLightConvergesToTheBand := by
  intro s raw lo hi ok opened hlo hhi n enough
  refine exists_runOps ok fun t run => ?_
  obtain ⟨sameEnd, distance⟩ := run.approaches opened hlo hhi
  have reached : bandDistance lo hi t.acc.toNat = 0 := by
    have accLt := s.acc.isLt
    have rawLt := raw.isLt
    have loLe : lo ≤ raw.toNat := hlo ▸ Nat.mul_div_le raw.toNat _
    have order : lo ≤ hi := by
      have := Nat.two_pow_pos s.cfg.emaK
      omega
    have bound : bandDistance lo hi s.acc.toNat ≤ 1023 := by
      unfold bandDistance
      omega
    omega
  rw [← nearestInBand_of_distance_zero reached, sameEnd, nearestInBand]

/-! ### The latch (R167, R168) -/

/-- An operation leaves the filter alone, or loads a value between the accumulator and its sample, which the latch
classifies. -/
theorem exec_filter_bounds {i : Instr} {s t : State} (h : exec i s = .next t) :
    (t.acc = s.acc ∧ t.dark = s.dark) ∨
      (t.dark = classify s.cfg s.dark t.acc.toNat ∧ ∃ raw, (i = .amb raw ∨ i = .seed raw) ∧
        ∀ m, (m ≤ s.acc.toNat → m ≤ raw.toNat → m ≤ t.acc.toNat) ∧
          (s.acc.toNat ≤ m → raw.toNat ≤ m → t.acc.toNat ≤ m)) := by
  rcases exec_filter_cases h with kept | ⟨a, rfl, dark, raw, ⟨rfl, acc⟩ | ⟨rfl, acc⟩⟩
  · exact .inl kept
  · rw [acc]
    exact .inr ⟨acc ▸ dark, raw, .inr rfl, fun m => ⟨fun _ hs => hs, fun _ hs => hs⟩⟩
  · rw [acc]
    exact .inr ⟨acc ▸ dark, raw, .inl rfl, fun m => ⟨le_emaNext _, emaNext_le _⟩⟩

/-- A bright latch over an accumulator above the low threshold. -/
abbrev State.BrightAbove (s : State) (lo : Nat) : Prop := s.dark = false ∧ lo < s.acc.toNat

/-- A dark latch over an accumulator within the high threshold. -/
abbrev State.DarkWithin (s : State) (hi : Nat) : Prop := s.dark = true ∧ s.acc.toNat ≤ hi

/-- Samples above the low threshold keep a latch bright, operation by operation. -/
theorem exec_keeps_brightAbove {i : Instr} {s t : State} (h : exec i s = .next t) (bright : s.BrightAbove s.cfg.thLo)
    (samples : ∀ raw, i = .amb raw ∨ i = .seed raw → s.cfg.thLo < raw.toNat) : t.BrightAbove s.cfg.thLo := by
  obtain ⟨notDark, above⟩ := bright
  rcases exec_filter_bounds h with ⟨acc, dark⟩ | ⟨dark, raw, loads, bounds⟩
  · exact ⟨dark.trans notDark, by rwa [acc]⟩
  · have loaded : s.cfg.thLo < t.acc.toNat := (bounds _).1 above (samples raw loads)
    refine ⟨?_, loaded⟩
    rw [dark, ← Bool.not_eq_true, classify_eq_true_of_bright notDark]
    exact Nat.not_le.mpr loaded

/-- Samples within the high threshold keep a latch dark, operation by operation. -/
theorem exec_keeps_darkWithin {i : Instr} {s t : State} (h : exec i s = .next t) (within : s.DarkWithin s.cfg.thHi)
    (samples : ∀ raw, i = .amb raw ∨ i = .seed raw → raw.toNat ≤ s.cfg.thHi) : t.DarkWithin s.cfg.thHi := by
  obtain ⟨isDark, below⟩ := within
  rcases exec_filter_bounds h with ⟨acc, dark⟩ | ⟨dark, raw, loads, bounds⟩
  · exact ⟨dark.trans isDark, by rwa [acc]⟩
  · have loaded : t.acc.toNat ≤ s.cfg.thHi := (bounds _).2 below (samples raw loads)
    refine ⟨?_, loaded⟩
    rw [dark, ← Bool.not_eq_false, classify_eq_false_of_dark isDark]
    exact Nat.not_lt.mpr loaded

/-- What every operation of a run keeps, whose samples are all admitted, the run keeps. -/
theorem Run.keeps_of_samples {P : State → Prop} {Q : Sample → Prop} {c : Config} {is : List Instr} {s t : State}
    (run : Run is s t) (cfg : s.cfg = c) (start : P s)
    (keeps : ∀ i u v, u.cfg = c → P u → (∀ raw, i = .amb raw ∨ i = .seed raw → Q raw) →
      exec i { u with events := [] } = .next v → P v)
    (samples : ∀ raw, Instr.amb raw ∈ is ∨ Instr.seed raw ∈ is → Q raw) : P t := by
  induction run with
  | nil => exact start
  | @cons i is s u t first _ rest =>
    have here (raw : Sample) (loads : i = .amb raw ∨ i = .seed raw) : Q raw := by
      apply samples
      rcases loads with rfl | rfl <;> simp
    have later (raw : Sample) (loads : Instr.amb raw ∈ is ∨ Instr.seed raw ∈ is) : Q raw :=
      samples raw (loads.imp (List.mem_cons_of_mem i) (List.mem_cons_of_mem i))
    exact rest ((exec_next first).2.1.trans cfg) (keeps i s u cfg start here first) later

/-- Settles O39: both latches are kept by every operation whose sample is on their side. -/
theorem latchHoldsWhileSamplesStayOnItsSide : Obligations.LatchHoldsWhileSamplesStayOnItsSide := by
  intro is s t run
  have run := run_iff.mpr run
  constructor
  · intro bright above samples
    refine run.keeps_of_samples (P := fun u => u.BrightAbove s.cfg.thLo) rfl ⟨bright, above⟩ ?_ samples
    intro i u v cfg holds here first
    rw [← cfg] at holds here ⊢
    exact exec_keeps_brightAbove (s := { u with events := [] }) first holds here
  · intro dark within samples
    refine run.keeps_of_samples (P := fun u => u.DarkWithin s.cfg.thHi) rfl ⟨dark, within⟩ ?_ samples
    intro i u v cfg holds here first
    rw [← cfg] at holds here ⊢
    exact exec_keeps_darkWithin (s := { u with events := [] }) first holds here

/-- With one threshold the old value of the latch makes no difference (R168). -/
theorem classify_eq_true_of_single {c : Config} (single : c.thLo = c.thHi) (dark : Bool) (a : Nat) :
    classify c dark a = true ↔ a ≤ c.thLo := by
  cases dark with
  | false => exact classify_eq_true_of_bright rfl a
  | true => rw [← Bool.not_eq_false, classify_eq_false_of_dark rfl, single, Nat.not_lt]

/-- Settles O40: both commands classify the value they store. -/
theorem singleThresholdLatchHasNoMemory : Obligations.SingleThresholdLatchHasNoMemory := by
  intro i raw s t single updates h
  have classified : t.dark = classify s.cfg s.dark t.acc.toNat := by
    obtain ⟨ok, -⟩ := exec_next h
    rcases updates with rfl | ⟨rfl, opened⟩
    · obtain rfl := Host.Outcome.next.inj ((exec_seed_next ok raw).symm.trans h)
      rw [s.loadFilter_acc_toNat raw.isLt, State.loadFilter_dark]
    · obtain rfl := Host.Outcome.next.inj ((exec_amb_of_sampling ok opened raw).symm.trans h)
      rw [s.loadFilter_acc_toNat (emaNext_lt _ s.acc raw), State.loadFilter_dark]
  rw [classified, classify_eq_true_of_single single]

end Sys2Proof.Machine
end

section
/-! The family other, seventh part: the lamp windows, what DUTY reads, the software PWM along a run, and
iterations. -/

namespace Sys2Proof.Machine

/-! ### The tail windows (R184, R185) -/

/-- A DUTY that is not idle stores the tail value of MS. -/
theorem exec_duty_tail_of_awake {s t : State} (awake : s.tc.toNat ≤ s.cfg.idleTh) (h : exec .duty s = .next t) :
    t.dutyTail = s.tailDuty := by
  rcases exec_duty_cases h with ⟨idle, -⟩ | ⟨-, rfl⟩
  · exact absurd idle (Nat.not_lt.mpr awake)
  · rfl

/-- Settles O42: with D = 60 and P = 100 the windows are 0 to 59 and 100 to 159. -/
theorem defaultTailFlashesInItsTwoWindows : Obligations.DefaultTailFlashesInItsTwoWindows := by
  intro s t duration offset awake h
  obtain ⟨ok, -⟩ := exec_next h
  rw [exec_duty_tail_of_awake awake h, State.tailDuty_toNat ok, duration, offset]
  exact ⟨fun inside => if_pos (by omega), fun outside => if_neg (by omega)⟩

/-- In the ring the flash values are two intervals. -/
theorem filter_inFlash_eq {c : Config} (ok : c.ok = true) :
    (Finset.range 1024).filter (fun m => inFlash c m = true) =
      Finset.range c.tailD ∪ Finset.Ico c.tailP (c.tailP + c.tailD) := by
  have fits := (Config.facts ok).tail_fits
  ext m
  simp only [Finset.mem_filter, Finset.mem_range, Finset.mem_union, Finset.mem_Ico, inFlash_iff]
  omega

/-- Settles O43: the two intervals are disjoint because D is at most P, and each has D values. -/
theorem tailFlashesTwiceItsDurationPerRing : Obligations.TailFlashesTwiceItsDurationPerRing := by
  intro c ok
  have apart : Disjoint (Finset.range c.tailD) (Finset.Ico c.tailP (c.tailP + c.tailD)) := by
    rw [Finset.disjoint_left]
    intro m first second
    have order := (Config.facts ok).tailD_le_tailP
    rw [Finset.mem_range] at first
    rw [Finset.mem_Ico] at second
    omega
  calc ((List.range 1024).filter fun m => inFlash c m).length
      = ((Finset.range 1024).filter fun m => inFlash c m = true).card := by
        rw [← Nat.count_eq_card_filter_range, Nat.count, List.countP_eq_length_filter]
        simp
    _ = 2 * c.tailD := by
        rw [filter_inFlash_eq ok, Finset.card_union_of_disjoint apart, Finset.card_range, Nat.card_Ico]
        omega

/-! ### What DUTY reads and writes (R192) -/

/-- Two states agree on what DUTY reads. -/
structure State.AgreeForDuty (s u : State) : Prop where
  cfg : s.cfg = u.cfg
  tc : s.tc = u.tc
  ms : s.ms = u.ms
  dark : s.dark = u.dark
  spc : s.spc = u.spc

/-- The values of a DUTY are functions of what it reads. -/
theorem State.AgreeForDuty.values {s u : State} (agree : s.AgreeForDuty u) :
    s.headDuty = u.headDuty ∧ s.tailDuty = u.tailDuty ∧ s.meterDuty = u.meterDuty ∧ s.auxPin = u.auxPin := by
  obtain ⟨cfg, -, ms, dark, spc⟩ := agree
  simp only [State.headDuty, State.tailDuty, State.meterDuty, State.auxPin, State.pwmHigh, cfg, ms, dark, spc, and_self]

/-- Settles O44: both states are idle or neither is; the values agree, and those of a lamp are legal. -/
theorem dutyDependsOnFourRegistersOnly : Obligations.DutyDependsOnFourRegistersOnly := by
  intro s u s' u' cfg tc ms dark spc hs hu
  obtain ⟨ok, -⟩ := exec_next hs
  obtain ⟨head, tail, meter, aux⟩ := State.AgreeForDuty.values ⟨cfg, tc, ms, dark, spc⟩
  have counter : s'.spc = u'.spc := by
    apply BitVec.eq_of_toNat_eq
    rw [exec_spc hs, exec_spc hu, cfg, spc]
  rcases exec_duty_cases hs with ⟨idle, rfl⟩ | ⟨awake, rfl⟩
  · rcases exec_duty_cases hu with ⟨-, rfl⟩ | ⟨awake, -⟩
    · exact ⟨rfl, rfl, rfl, rfl, rfl, rfl, counter, Nat.zero_le _, Nat.zero_le _, Nat.zero_le _⟩
    · rw [← cfg, ← tc] at awake
      exact absurd idle (Nat.not_lt.mpr awake)
  · rcases exec_duty_cases hu with ⟨idle, -⟩ | ⟨-, rfl⟩
    · rw [← cfg, ← tc] at idle
      exact absurd idle (Nat.not_lt.mpr awake)
    · exact ⟨rfl, rfl, head, tail, meter, aux, counter, State.headDuty_le ok, State.tailDuty_le ok,
        State.meterDuty_le ok⟩

/-! ### The software PWM along a run (R190) -/

/-- Inside its period the counter advances in the ring of the period. -/
theorem perInc_eq_mod {x p : Nat} (inside : x < p) : perInc x p = (x + 1) % p := by
  rcases perInc_cases x p with ⟨wraps, zero⟩ | ⟨below, inc⟩
  · have atEnd : x + 1 = p := by omega
    rw [zero, atEnd, Nat.mod_self]
  · rw [inc, Nat.mod_eq_of_lt below]

/-- If `x` is a phase of SPC in its period, then so is, after an operation, `x` advanced by its DUTY. -/
theorem exec_phase {i : Instr} {s t : State} {x : Nat} (h : exec i s = .next t)
    (phase : s.spc.toNat = x % s.cfg.swPeriod) :
    t.spc.toNat = (x + if i = .duty then 1 else 0) % s.cfg.swPeriod := by
  obtain ⟨ok, -⟩ := exec_next h
  have inside : x % s.cfg.swPeriod < s.cfg.swPeriod := Nat.mod_lt _ (Config.facts ok).swPeriod_pos
  rw [exec_spc h, phase]
  split
  · rw [perInc_eq_mod inside, Nat.mod_add_mod]
  · rw [Nat.add_zero]

/-- The DUTY count, operation by operation. -/
theorem count_duty_cons (i : Instr) (is : List Instr) :
    (i :: is).count .duty = is.count .duty + if i = .duty then 1 else 0 := by
  simp [List.count_cons]

/-- SPC advances by the number of DUTYs in the ring of the period. -/
theorem Run.spc_eq {is : List Instr} {s t : State} {x : Nat} (run : Run is s t)
    (phase : s.spc.toNat = x % s.cfg.swPeriod) : t.spc.toNat = (x + is.count .duty) % s.cfg.swPeriod := by
  induction run generalizing x with
  | nil => exact phase
  | @cons i is s u t first _ rest =>
    have cfg : u.cfg = s.cfg := (exec_next first).2.1
    have phaseU : u.spc.toNat = (x + if i = .duty then 1 else 0) % s.cfg.swPeriod := (exec_phase first phase :)
    rw [← cfg] at phaseU
    rw [rest phaseU, cfg, count_duty_cons, Nat.add_assoc, Nat.add_comm (List.count _ _)]

/-- Settles O46: a counter below the period is its own phase. -/
theorem pwmCounterCountsDutiesModuloThePeriod : Obligations.PwmCounterCountsDutiesModuloThePeriod :=
  fun _ _ ok below => exists_runOps ok fun _ run => run.spc_eq (Nat.mod_eq_of_lt below).symm

/-- The pin is high at the phase `x` of the software PWM (R188). -/
abbrev PwmHighAt (c : Config) (x : Nat) : Prop := x % c.swPeriod < c.swDuty

/-- A DUTY that finds the block dark and not idle writes AUX by its phase, in mode SW. -/
theorem exec_duty_aux {s t : State} {x : Nat} (h : exec .duty s = .next t) (mode : s.cfg.meterMode = .sw)
    (dark : s.dark = true) (awake : s.tc.toNat ≤ s.cfg.idleTh) (phase : s.spc.toNat = x % s.cfg.swPeriod) :
    t.aux = true ↔ PwmHighAt s.cfg x := by
  rcases exec_duty_cases h with ⟨idle, -⟩ | ⟨-, rfl⟩
  · exact absurd idle (Nat.not_lt.mpr awake)
  · rw [PwmHighAt, ← phase]
    exact (State.auxPin_iff_of_sw mode).trans (and_iff_right dark)

/-- Along a run whose DUTYs find the block dark and not idle, AUX is raised as often as the phases it goes through are
high. -/
theorem Run.auxCount_add {is : List Instr} {s t : State} {x : Nat} (run : Run is s t) (mode : s.cfg.meterMode = .sw)
    (phase : s.spc.toNat = x % s.cfg.swPeriod)
    (lit : ∀ v ∈ visits is s, v.op = .duty → v.before.dark = true ∧ v.before.tc.toNat ≤ s.cfg.idleTh) :
    auxCount is s + Nat.count (PwmHighAt s.cfg) x = Nat.count (PwmHighAt s.cfg) (x + is.count .duty) := by
  induction run generalizing x with
  | nil => simp [auxCount, visits]
  | @cons i is s u t first _ rest =>
    have cfg : u.cfg = s.cfg := (exec_next first).2.1
    have stepped := (step_present_encode i s).trans first
    rw [visits_cons stepped, List.forall_mem_cons] at lit
    obtain ⟨here, later⟩ := lit
    have phaseU : u.spc.toNat = (x + if i = .duty then 1 else 0) % s.cfg.swPeriod := (exec_phase first phase :)
    rw [← cfg] at phaseU later
    have counted := rest (cfg ▸ mode) phaseU later
    rw [cfg] at counted
    rw [auxCount_cons stepped, count_duty_cons]
    by_cases duty : i = .duty
    · subst duty
      obtain ⟨dark, awake⟩ := here rfl
      have raised : u.aux = true ↔ PwmHighAt s.cfg x := (exec_duty_aux first mode dark awake phase :)
      rw [if_pos rfl, Nat.count_succ, Nat.add_right_comm] at counted
      simp only [raised, true_and, if_true, ← Nat.add_assoc]
      omega
    · rw [if_neg duty, Nat.add_zero] at counted
      rw [if_neg fun both => duty both.1, if_neg duty, Nat.zero_add, Nat.add_zero]
      exact counted

/-- Over one period, begun at any phase, exactly `SW_DUTY` phases are high. -/
theorem count_pwmHighAt_period {c : Config} (ok : c.ok = true) (x : Nat) :
    Nat.count (PwmHighAt c) (x + c.swPeriod) = Nat.count (PwmHighAt c) x + c.swDuty := by
  have facts := Config.facts ok
  have periodic : (fun k => PwmHighAt c (c.swPeriod + k)) = PwmHighAt c := by
    funext k
    simp only [PwmHighAt, Nat.add_mod_left]
  have onePeriod : Nat.count (PwmHighAt c) c.swPeriod = c.swDuty := by
    obtain ⟨rest, parts⟩ := Nat.exists_eq_add_of_le facts.swDuty_le
    have high : Nat.count (PwmHighAt c) c.swDuty = c.swDuty := by
      rw [Nat.count_iff_forall]
      intro k below
      exact (Nat.mod_le k _).trans_lt below
    have low : Nat.count (fun k => PwmHighAt c (c.swDuty + k)) rest = 0 := by
      rw [Nat.count_iff_forall_not]
      intro k below
      have inside : c.swDuty + k < c.swPeriod := by omega
      rw [PwmHighAt, Nat.mod_eq_of_lt inside]
      omega
    calc Nat.count (PwmHighAt c) c.swPeriod = Nat.count (PwmHighAt c) (c.swDuty + rest) := by rw [← parts]
      _ = c.swDuty := by rw [Nat.count_add, high, low, Nat.add_zero]
  rw [Nat.add_comm x, Nat.count_add]
  simp only [periodic, onePeriod, Nat.add_comm c.swDuty]

/-- Settles O47: the DUTYs of the run go through one period of phases. -/
theorem pwmIsHighForItsDutyInEveryPeriod : Obligations.PwmIsHighForItsDutyInEveryPeriod := by
  intro is s ok mode below duties lit
  obtain ⟨t, run⟩ := exists_run is ok
  have counted := run.auxCount_add mode (Nat.mod_eq_of_lt below).symm lit
  rw [duties, count_pwmHighAt_period ok] at counted
  omega

/-! ### Idling and waking (R258, R200) -/

/-- Settles O48: the count keeps what the ticks have added, so that the DUTY finds TC past the idle threshold. -/
theorem quietTimeTurnsTheOutputsOff : Obligations.QuietTimeTurnsTheOutputsOff := by
  intro is s ok within keeps ticks
  obtain ⟨t, run⟩ := exists_run is ok
  have cfg := run.cfg_eq
  have idle : t.cfg.idleTh < t.tc.toNat := by
    have threshold := (Config.facts ok).idleTh_lt
    rw [run.tc_eq_of_keepsCount within keeps, cfg]
    omega
  have okT : t.cfg.ok = true := cfg ▸ ok
  have duty := exec_duty_of_idle (s := { t with events := [] }) okT idle
  exact ⟨_, run_iff.mp (run.append (.single duty)), rfl, rfl, rfl, rfl, rfl, rfl⟩

/-- AMB keeps TC and PREV. -/
theorem exec_amb_kept {light : Sample} {s t : State} (h : exec (.amb light) s = .next t) :
    t.tc = s.tc ∧ t.prev = s.prev := by
  cases does_of_exec h with
  | motionShut reads => cases reads
  | motionNoted reads => cases reads
  | motionHonoured reads => cases reads
  | ambShut => exact ⟨rfl, rfl⟩
  | ambOpen => exact ⟨rfl, rfl⟩

/-- Settles O49: the honoured change leaves TC at 0, AMB keeps it, and so DUTY finds the block awake. -/
theorem honouredChangeWakesTheSameIteration : Obligations.HonouredChangeWakesTheSameIteration := by
  intro i cur light s ok reads honoured
  refine exists_runOps ok fun t run => ?_
  cases run with | @cons _ _ _ u _ motion rest =>
  cases rest with | @cons _ _ _ v _ amb rest =>
  cases rest with | @cons _ _ _ w _ duty rest =>
  cases rest
  have effect := exec_motion_next (s := { s with events := [] }) reads motion
  obtain ⟨tcU, prevU, -⟩ := effect.honoured honoured
  obtain ⟨tcV, prevV⟩ := exec_amb_kept (s := { u with events := [] }) amb
  have tc : v.tc = 0 := tcV.trans tcU
  have prev : v.prev = cur := prevV.trans prevU
  rcases exec_duty_cases duty with ⟨idle, -⟩ | ⟨-, rfl⟩
  · have zero : v.tc.toNat = 0 := congrArg BitVec.toNat tc
    exact absurd (zero ▸ idle) (Nat.not_lt_zero _)
  · exact ⟨tc, rfl, rfl, prev⟩

/-- A motion step and the loading of the filter write different registers, and neither reads what the other writes. -/
theorem State.loadFilter_motionStep (s : State) (cur : Bool) (a : Nat) :
    (s.motionStep cur).loadFilter a = (s.loadFilter a).motionStep cur := by
  have gate : (s.loadFilter a).gateOpen = s.gateOpen := rfl
  have honours : (s.loadFilter a).honours cur = s.honours cur := rfl
  simp only [State.motionStep, gate, honours]
  split
  · split <;> rfl
  · rfl

/-- What the filter reads is no register of a motion step. -/
theorem State.motionStep_filter (s : State) (cur : Bool) :
    (s.motionStep cur).spc = s.spc ∧ (s.motionStep cur).acc = s.acc := by
  rcases s.motionStep_cases cur with ⟨-, h⟩ | ⟨-, -, h⟩ | ⟨-, -, h⟩ <;> simp [h]

/-- Settles O50: with the sampling gate open the two updates commute, and with it shut AMB is nothing on either side. -/
theorem motionAndAmbientCommute : Obligations.MotionAndAmbientCommute := by
  intro i cur light s a b t u reads hi hamb hamb' hi'
  obtain ⟨ok, cfgA, -⟩ := exec_next hi
  obtain ⟨-, cfgB, -⟩ := exec_next hamb'
  have okA : a.cfg.ok = true := cfgA ▸ ok
  rw [exec_motion reads] at hi
  rw [exec_motion (cfgB ▸ reads)] at hi'
  obtain ⟨-, rfl⟩ := State.complete_next hi
  obtain ⟨-, rfl⟩ := State.complete_next hi'
  obtain ⟨spc, acc⟩ := s.motionStep_filter cur
  by_cases opened : s.spc = 0
  · rw [exec_amb_of_sampling okA (spc.trans opened), cfgA, acc] at hamb
    rw [exec_amb_of_sampling ok opened] at hamb'
    cases hamb
    cases hamb'
    exact s.loadFilter_motionStep cur _
  · rw [exec_amb_of_not_sampling okA (spc ▸ opened)] at hamb
    rw [exec_amb_of_not_sampling ok opened] at hamb'
    cases hamb
    cases hamb'
    rfl

end Sys2Proof.Machine
end
